-- ==== Sys2Proof/Word.lean ====
section
/-! DEFINITION. The words of the machine: bytes, sixteen-bit words, station addresses and sets of addresses.
A set of addresses is the sixteen-bit bitmap of R169: bit k stands for address k. -/

namespace Sys2Proof

/-- One byte of a host-port frame or of an announce frame (R168). -/
abbrev Byte := BitVec 8

/-- A two-byte field: a round number, a digest, a service word (R168). -/
abbrev Word16 := BitVec 16

/-- A station address, 0 to 15 (Conventions, "Station addresses"). -/
abbrev Addr := Fin 16

/-- A set of station addresses as the bitmap of R169, bit k for address k. -/
abbrev AddrSet := BitVec 16

/-- The sixteen addresses in ascending order, the order in which R27, R28 and R36 take them. -/
def allAddrs : List Addr := [0, 1, 2, 3, 4, 5, 6, 7, 8, 9, 10, 11, 12, 13, 14, 15]

/-- Membership: bit k of the bitmap (R169). -/
def inSet (a : Addr) (s : AddrSet) : Bool := s.getLsbD a.val

/-- The set that holds one address. -/
def onlyAddr (a : Addr) : AddrSet := BitVec.twoPow 16 a.val

/-- A set with an address added. -/
def insertAddr (a : Addr) (s : AddrSet) : AddrSet := s ||| onlyAddr a

/-- A set with an address taken out. -/
def eraseAddr (a : Addr) (s : AddrSet) : AddrSet := s &&& ~~~(onlyAddr a)

/-- The number of addresses in a set. -/
def setSize (s : AddrSet) : Nat := allAddrs.countP (fun a => inSet a s)

/-- The set of the addresses that pass a test. -/
def setWhere (p : Addr → Bool) : AddrSet :=
  allAddrs.foldl (fun s a => if p a then insertAddr a s else s) 0#16

/-- A count that stops at its greatest value (R1, R10, R40, R83, R158). -/
def satAdd (top n : Nat) : Nat := if n < top then n + 1 else top

end Sys2Proof
end

