-- ==== Sys2Proof/Syntax.lean ====
section
/-! DEFINITION. The commands: one constructor for every row of spec/opcode_table.json, with the operands that the spec gives the
operation or the event. The table gives no operand bits, so each operand is what the row's rule makes the command depend on. -/

namespace Sys2Proof

/-- The kind of an announce frame (R51, R169). -/
inductive FrameKind where
  | announce
  | join
  | leave
deriving DecidableEq, Repr

/-- The fields of an announce frame beside its kind, its sender and its check code, as they stand in bytes 2 to 14 (R169).
The host state is kept as its three-bit code, because a receiver must name what code 7 means (R169). -/
structure FrameBody where
  /-- byte 2 -/
  incarnation : Byte
  /-- bytes 3 and 4 -/
  round : Word16
  /-- bytes 5 and 6 -/
  digest : Word16
  /-- byte 7, bits 6 to 4 -/
  hostCode : BitVec 3
  /-- byte 7, bits 2 to 0 -/
  attempt : BitVec 3
  /-- byte 8, bits 3 to 0 -/
  flags : BitVec 4
  /-- bytes 9 and 10 -/
  service : Word16
  /-- bytes 11 and 12: the view bitmap -/
  view : AddrSet
  /-- bytes 13 and 14: the accusation set -/
  accuses : AddrSet
deriving DecidableEq, Repr

/-- What the Line Unit reads in a peer's slot from its start to its close (R70, R81). -/
inductive SlotReading where
  /-- the line stayed recessive throughout -/
  | silent
  /-- the first dominant level did not fall between 10 and 40 µs after the start of the slot -/
  | badStart
  /-- a frame started in time: the bits read at the middle of each bit time from the start bit on, 0 (false) for dominant and
  1 (true) for recessive -/
  | levels (bits : List Bool)
deriving DecidableEq, Repr

/-- The fourteen parameter bytes of CONFIGURE, field by field as they are received (R144, R171). -/
structure ConfigRecord where
  /-- byte 1, in units of 10 ms -/
  roundPeriod : Byte
  /-- byte 2 -/
  missLimit : Byte
  /-- byte 3 -/
  admitRounds : Byte
  /-- byte 4 -/
  quorumFloor : Byte
  /-- bytes 5 and 6, in ms -/
  promptPeriod : Word16
  /-- bytes 7 and 8, in ms -/
  warningLead : Word16
  /-- byte 9 -/
  recoveryRounds : Byte
  /-- byte 10 -/
  resetLimit : Byte
  /-- byte 11, in units of 10 ms -/
  pulseDuration : Byte
  /-- byte 12 -/
  failMask : Byte
  /-- byte 13 -/
  polarity : Byte
  /-- byte 14 -/
  enables : Byte
deriving DecidableEq, Repr

/-- The thirteen host commands as a checked frame names them (section 8.8, R170). -/
inductive HostCommand where
  | status
  | configure (record : ConfigRecord)
  | restart
  | join
  | leave
  | accuse (address : Byte)
  | pardon (address : Byte)
  | prompt (sequence : Byte)
  | publish (word : Word16)
  | snapshot
  | readEntry
  | discardSnapshot
  | readEvent
deriving DecidableEq, Repr

/-- The commands of the block: the operations and events of spec/opcode_table.json, in the table's order. -/
inductive Instr where
  /-- POWER_ON (R154): what the part samples as VSTBY comes up: ADDR3..ADDR0, the levels of COND3..COND0 (high is 1), and
  whether RSTSENSE reads asserted -/
  | powerOn (straps : BitVec 4) (levels : BitVec 4) (rstsense : Bool)
  /-- NCS_ASSERT (R137) -/
  | ncsAssert
  /-- NCS_RELEASE (R141) -/
  | ncsRelease
  /-- BAD_COMMAND_FRAME (R139): the levels sampled on SDI from the assertion of NCS on, 1 (true) for high, eight a byte and the most
  significant bit first (R136) -/
  | badCommandFrame (sdi : List Bool)
  /-- RESPONSE_DELIVERED (R141) -/
  | responseDelivered
  /-- CONFIGURE (R145): the configuration record -/
  | configure (record : ConfigRecord)
  /-- STATUS (R149) -/
  | status
  /-- RESTART (R151) -/
  | restart
  /-- JOIN (R49) -/
  | join
  /-- LEAVE (R61) -/
  | leave
  /-- ACCUSE (R45): the address byte, 0 to 255 -/
  | accuse (address : Byte)
  /-- PARDON (R46): the address byte, 0 to 255 -/
  | pardon (address : Byte)
  /-- PROMPT (R101): the sequence number -/
  | prompt (sequence : Byte)
  /-- PUBLISH (R132): the service word -/
  | publish (word : Word16)
  /-- SNAPSHOT (R164) -/
  | snapshot
  /-- READ_ENTRY (R165) -/
  | readEntry
  /-- DISCARD_SNAPSHOT (R166) -/
  | discardSnapshot
  /-- READ_EVENT (R161) -/
  | readEvent
  /-- ROUND_MARK (R73): another station's mark, or a run taken as one -/
  | roundMark
  /-- ROUND_TIMER_EXPIRY (R74) -/
  | roundTimerExpiry
  /-- LISTEN_WINDOW_EXPIRY (R78) -/
  | listenWindowExpiry
  /-- OWN_SLOT_START (R80) -/
  | ownSlotStart
  /-- OWN_SLOT_END (R80): whether the bits sent, if any, met no collision up to the end bit -/
  | ownSlotEnd (clean : Bool)
  /-- SLOT_CLOSE (R81): the slot and what was read in it -/
  | slotClose (slot : Addr) (reading : SlotReading)
  /-- ANNOUNCE_FRAME (R6): the slot and the fields of the ANNOUNCE frame received whole in it -/
  | announceFrame (slot : Addr) (frame : FrameBody)
  /-- JOIN_FRAME (R56): the slot and the fields of the JOIN frame received whole in it -/
  | joinFrame (slot : Addr) (frame : FrameBody)
  /-- LEAVE_FRAME (R64): the slot and the fields of the LEAVE frame received whole in it -/
  | leaveFrame (slot : Addr) (frame : FrameBody)
  /-- VERDICT_FIELD_START (R33) -/
  | verdictFieldStart
  /-- ROUND_END (R36): the CONDEMN and CLEAR positions that the OTHER stations drove in the verdict field -/
  | roundEnd (condemn : AddrSet) (clear : AddrSet)
  /-- COLLISION (R84): taken, the line having read recessive again within 1 ms -/
  | collision
  /-- LINE_STUCK (R86) -/
  | lineStuck
  /-- LINE_RELEASED (R87) -/
  | lineReleased
  /-- PROMPT_WARNING (R98) -/
  | promptWarning
  /-- PROMPT_LAPSED (R99) -/
  | promptLapsed
  /-- PULSE_END (R112) -/
  | pulseEnd
  /-- PULSE_CONFIRMED (R111) -/
  | pulseConfirmed
  /-- EXTERNAL_HOST_RESET (R120): RSTSENSE has read asserted for 1 ms in IDLE: whether the assertion also began in IDLE, after the
  last power-on or RESTART -/
  | externalHostReset (begunInIdle : Bool)
  /-- MCLR_ASSERTION (R118): whether the assertion that completes its 10 ms began after the Reset Unit had entered HELD -/
  | mclrAssertion (begunInHeld : Bool)
  /-- RECOVERY_WINDOW_END (R113) -/
  | recoveryWindowEnd
  /-- INPUT_CHANGE (R127): the input COND0 to COND3 and the level it has held for 2 ms (high is true) -/
  | inputChange (input : Fin 4) (level : Bool)
  /-- TURNAROUND_END (R137) -/
  | turnaroundEnd
  /-- RELEASE_MEASUREMENT_RESTART (R87) -/
  | releaseMeasurementRestart
  /-- MCLR_RELEASE (R118) -/
  | mclrRelease
  /-- RSTSENSE_RELEASE (R120) -/
  | rstsenseRelease
deriving DecidableEq, Repr

end Sys2Proof
end

