-- ==== Sys2Proof/Decode.lean ====
section
/-! DEFINITION. The command that a word spells by the table's bits. No row of spec/opcode_table.json gives bits ("fields" is empty in
every row and no row has "fixed"), so no word spells a command. The byte frames of the host port and of the peer line are decoded in
Machine/Formats.lean (checkFrame, frameOfBytes). -/

namespace Sys2Proof

/-- The command that a table word spells: none, because the table gives no row any bits. -/
def decodeTableWord (nbits w : Nat) : Option Instr :=
  match nbits, w with
  | _, _ => none

end Sys2Proof
end

