-- ==== Sys2Proof/Config.lean ====
section
/-! DEFINITION. What the spec leaves to the implementation, as constants with no body: nothing can be proved about their values.
Each one is an ORDER that no rule of spec/ fixes (log entry 6). The fixed capacities of the part stand here too. -/

namespace Sys2Proof

/-- The event queue holds at most 32 records (R158). -/
def Config.queueCapacity : Nat := 32

/-- The greatest lost count (R158). -/
def Config.lostMax : Nat := 255

/-- The greatest miss count (R1). -/
def Config.missMax : Nat := 7

/-- The greatest consecutive splits count (R1). -/
def Config.splitsMax : Nat := 255

/-- The greatest garbled-slot total (R83). -/
def Config.garbledMax : Nat := 65535

/-- Whether HOST_RELEASED is posted before the record of the line event (LINE_STUCK or DUPLICATE_ADDRESS) that carries the
release out. R119 says only 'at that moment', and R86 and R85 do not place it. A FREE VALUE (log entry 6). -/
opaque Config.releaseBeforeLinePost : Bool

/-- Whether the Reset Unit carries a requested release out before the Line Unit's resynchronisation check of the same round end, so that
HOST_RELEASED stands before ROUND_RESYNC and carries the old round number. R119, R90 and R92 do not order the two. A FREE VALUE (log entry 6). -/
opaque Config.releaseBeforeResync : Bool

/-- Whether the Reset Unit carries a requested release out before the View Unit's round-end work of the same round end.
R119 and R36 do not order the two blocks. A FREE VALUE (log entry 6). -/
opaque Config.releaseBeforeRoundEndWork : Bool

/-- Whether the Reset Unit takes a round beginning before the Line Unit posts LINE_SYNCED for the same mark.
R75 and R78 do not order the two blocks. A FREE VALUE (log entry 6). -/
opaque Config.recoveryBeforeLineSynced : Bool

/-- In the millisecond with this number, whether a line timer that runs out is taken before a Prompt Timer or pulse count that
runs out in the same millisecond. R102, R104, R105 and R112 give both orders. A FREE VALUE (log entries 5 and 6). -/
opaque Config.lineTimerFirst : Nat → Bool

end Sys2Proof
end

