-- ==== Sys2Proof/Machine/State.lean ====
section
/-! DEFINITION. The state of the GS16, block by block as the block overview of 00_scope.md gives it, all of it plain data;
the reasons a step can stop; and the machine right after power-on. -/

namespace Sys2Proof.Machine

/-- The attachment state, also called the line state (R76). -/
inductive LineState where
  | detached
  | listening
  | synced
  | active
  | blocked
deriving DecidableEq, Repr

/-- Where in its round a station stands (R71). -/
inductive RoundPos where
  /-- no round is in progress: DETACHED, LISTENING or BLOCKED -/
  | outside
  /-- among the slots, every slot below `next` being over -/
  | slots (next : Nat)
  /-- the own slot has started and has not ended -/
  | ownSlot
  /-- the verdict field has started -/
  | verdict
  /-- after the round end -/
  | rest
deriving DecidableEq, Repr

/-- What the station drives onto the peer line (the three cases of R69, or nothing). -/
inductive Driving where
  | nothing
  | mark
  | frame
  | verdict
deriving DecidableEq, Repr

/-- The classification of a slot (R81). A frame that adds to the resynchronisation check keeps the round number it carried (R90). -/
inductive SlotOutcome where
  | silent
  | garbled
  | foreign
  | outOfStep (round : Word16)
  | frame (round : Word16)
deriving DecidableEq, Repr

/-- The own frame of a round as the View Unit composed it; its sender is the own address (R51). -/
structure OwnFrame where
  kind : FrameKind
  body : FrameBody
deriving DecidableEq, Repr

/-- The Line Unit. -/
structure LineUnit where
  /-- the line state (R76) -/
  state : LineState
  /-- the ATT pin, asserted (R76) -/
  att : Bool
  /-- what the station drives onto PL_A and PL_B (R69) -/
  driving : Driving
  /-- the round timer: ms left, absent while it is stopped (R72) -/
  roundTimer : Option Nat
  /-- the listen window: ms left, absent while it is stopped (R77) -/
  listenWindow : Option Nat
  /-- waiting for the release of a stuck line (R86, R87) -/
  waitRelease : Bool
  /-- the measurement of recessive time, ms (R87) -/
  recessiveTime : Nat
  /-- the round number (R88) -/
  roundNumber : Word16
  /-- the mark that the round number is set (R88) -/
  numberSet : Bool
  /-- the first round after an entry into SYNCED, no frame of the own profile yet (R89) -/
  adoptOpen : Bool
  /-- where in the round the station stands (R71) -/
  pos : RoundPos
  /-- the slot outcomes of the round in order of arrival (R75, R82) -/
  outcomes : List (Addr × SlotOutcome)
  /-- the in-step count of the round (R82) -/
  inStep : Nat
  /-- the out-of-step count of the round (R82) -/
  outOfStep : Nat
  /-- the own frame of the round, once composed (R80) -/
  ownFrame : Option OwnFrame
  /-- the own frame of the round was sent and went out whole (R80) -/
  ownWhole : Bool
  /-- a collision has been read and waits for the line to read recessive (R84); the round goes on meanwhile, and the next round beginning
  drops it (DESIGN CHOICE, log entry 23) -/
  collisionPending : Bool
  /-- the CONDEMN positions of the drive set (R91); kept after the field until the next VERDICT_FIELD_START (DESIGN CHOICE, log entry 21) -/
  condemnDrive : AddrSet
  /-- the CLEAR positions of the drive set (R91); kept as the CONDEMN positions are (log entry 21) -/
  clearDrive : AddrSet
  /-- the CONDEMN positions of the sampled field, dominant is 1 (R91) -/
  condemnField : AddrSet
  /-- the CLEAR positions of the sampled field (R91) -/
  clearField : AddrSet
  /-- the garbled-slot total (R83) -/
  garbledTotal : Nat
deriving DecidableEq, Repr

/-- The state of a Peer Table entry (R3). -/
inductive EntryState where
  | absent
  | joining
  | member
  | suspect
  | recovering
deriving DecidableEq, Repr

/-- The health of a host as reported in frames (R121, R169). -/
inductive HostState where
  | dormant
  | running
  | warned
  | lapsed
  | fault
  | resetting
  | held
deriving DecidableEq, Repr

/-- One entry of the Peer Table (R1). -/
structure Entry where
  state : EntryState
  incarnation : Option Byte
  lastHeard : Option Word16
  /-- 0 to 7 -/
  missCount : Nat
  hostState : HostState
  attempt : BitVec 3
  flags : BitVec 4
  service : Word16
  viewAgrees : Bool
  /-- the admission rounds remaining, 1 to 8, present while JOINING -/
  admission : Option Nat
  /-- the consecutive splits count, 0 to 255 -/
  splits : Nat
  mismatchSeen : Bool
  strangerReported : Bool
deriving DecidableEq, Repr

/-- The View Unit. -/
structure ViewUnit where
  /-- the Peer Table (R1) -/
  table : Vector Entry 16
  /-- the host accusation set (R44) -/
  hostAccused : AddrSet
  /-- the voter set of the round (R5) -/
  voters : AddrSet
  /-- V (R5) -/
  voterCount : Nat
  /-- Q (R31) -/
  quorum : Nat
  /-- the accuser tally: for each address, the voters that accused it in the round (R30) -/
  tally : Vector AddrSet 16
  /-- the own accusation set, held until the next own slot (R26); its reset value is the model's (log entry 20) -/
  ownAccusations : AddrSet
  /-- LEAVE frame pending (R63) -/
  leavePending : Bool
  /-- the mark of a FOREIGN outcome in a joining round (R54) -/
  foreignMark : Bool
deriving DecidableEq, Repr

/-- The state of the Prompt Timer (R95). -/
inductive TimerState where
  | disarmed
  | running
  | warned
  | lapsed
deriving DecidableEq, Repr

/-- The Prompt Timer (R95). -/
structure PromptTimer where
  state : TimerState
  /-- ms left before the lapse -/
  remaining : Nat
  /-- the expected sequence number -/
  expected : Byte
  /-- the WARN pin, asserted (R100) -/
  warn : Bool
deriving DecidableEq, Repr

/-- The reset state (R107). -/
inductive ResetState where
  | idle
  | pulsing
  | waiting
  | held
deriving DecidableEq, Repr

/-- The Reset Unit (R107). -/
structure ResetUnit where
  state : ResetState
  /-- the attempt number, 0 to 7 -/
  attempt : Nat
  /-- the remaining pulse time, ms -/
  pulse : Nat
  /-- the recovery rounds remaining -/
  recovery : Nat
  /-- the confirmation flag (R111) -/
  confirmed : Bool
  /-- release requested (R118) -/
  releaseRequested : Bool
  /-- the RSTOUT pin, asserted (R108) -/
  rstout : Bool
  /-- MCLR has read released for 10 ms since the last assertion taken, so that an assertion may be taken (R118) -/
  mclrReady : Bool
  /-- an RSTSENSE assertion is in progress that is no external host reset any more or was never one (R120) -/
  rstLatched : Bool
deriving DecidableEq, Repr

/-- The Condition Monitor. Its flags follow from the filtered levels and the stored record (Machine/Flags.lean, R126). -/
structure ConditionMonitor where
  /-- the filtered levels of COND3..COND0, high is 1 (R125) -/
  levels : BitVec 4
  /-- the own service word (R131) -/
  service : Word16
deriving DecidableEq, Repr

/-- How a station entered SYNCED (R78). -/
inductive WayOfEntry where
  | markObserved
  | ownMark
deriving DecidableEq, Repr

/-- The cause of SUSPECTED (R43). -/
inductive SuspectCause where
  | evidence
  | accused
  | self
  | split
deriving DecidableEq, Repr

/-- The reason of LEFT (R67). -/
inductive LeftReason where
  | silent
  | leave
deriving DecidableEq, Repr

/-- The reason of JOIN_FAILED (R60). -/
inductive JoinFailure where
  | duplicateAddress
  | profile
  | withdrawn
deriving DecidableEq, Repr

/-- The reason of ATTEMPT_END (R124). -/
inductive AttemptEnd where
  | confirmed
  | unconfirmed
  | rejoined
deriving DecidableEq, Repr

/-- An event: its kind, its subject and its detail (section 9.4). -/
inductive Event where
  | joined (peer : Addr) (incarnation : Byte)
  | left (peer : Addr) (reason : LeftReason)
  | suspected (subject : Addr) (cause : SuspectCause)
  | cleared (subject : Addr)
  | condemned (subject : Addr) (accusers : Nat)
  | split (subject : Addr) (count : Nat)
  | lost (peer : Addr)
  | heldSeen (peer : Addr) (attempt : BitVec 3)
  | restarted (peer : Addr) (old new : Byte)
  | stranger (peer : Addr) (incarnation : Byte)
  | condition (peer : Addr) (flags : BitVec 4)
  | service (peer : Addr) (word : Word16)
  | profileMismatch (peer : Addr) (digest : Word16)
  | viewMismatch (peer : Addr) (view : AddrSet)
  | joinDone (incarnation : Byte)
  | joinFailed (reason : JoinFailure)
  | promptWarning (expected : Byte)
  | promptLapsed (expected : Byte)
  | inputChange (flags : BitVec 4)
  | attemptStart (attempt : Nat)
  | attemptEnd (reason : AttemptEnd) (attempt : Nat)
  | hostHeld (attempt : Nat)
  | hostReleased
  | hostResetSeen
  | lineSynced (way : WayOfEntry)
  | lineStuck
  | lineReleased
  | duplicateAddress
  | roundResync (old new : Word16)
  /-- LOST without a subject: the loss record that the queue makes itself (R160) -/
  | lossRecord (count : Nat)
deriving DecidableEq, Repr

/-- An event record: the round number at the moment of posting and the event (R156). -/
structure EventRecord where
  round : Word16
  event : Event
deriving DecidableEq, Repr

/-- The copy in a LOADED snapshot buffer (R164). -/
structure Snapshot where
  table : Vector Entry 16
  round : Word16
  voterCount : Nat
  quorum : Nat
deriving DecidableEq, Repr

/-- The phase of the transaction in progress (R137). -/
inductive Phase where
  | deselected
  | command
  | turnaround
  | response
  | trailer
deriving DecidableEq, Repr

/-- The status codes (R142). -/
inductive Status where
  | ok
  | empty
  | pending
  | late
  | refusedState
  | refusedValue
  | refusedSeq
  | notConfigured
  | badCommand
  | badCheck
deriving DecidableEq, Repr

/-- The answer of a command: its status code and its data bytes; the length and the check byte follow from them (R140). -/
structure Response where
  status : Status
  data : List Byte
deriving DecidableEq, Repr

/-- The advance that waits for a response to be delivered whole (R141). -/
inductive Advance where
  | event
  | entry
deriving DecidableEq, Repr

/-- The Host Port. -/
structure HostPort where
  /-- the own address, sampled at power-on (R154) -/
  address : Addr
  /-- the configuration record; the configured flag is yes while it is present (R143, R144) -/
  config : Option ConfigRecord
  /-- the profile digest, absent while not configured (R147) -/
  digest : Option Word16
  /-- the event queue, oldest first (R158) -/
  queue : List EventRecord
  /-- the lost count (R158) -/
  lost : Nat
  /-- the INT pin, asserted (R163) -/
  int : Bool
  /-- the snapshot buffer: LOADED while a copy is present, else FREE (R164) -/
  snapshot : Option Snapshot
  /-- the read cursor (R164) -/
  cursor : Addr
  /-- the phase of the transaction (R137) -/
  phase : Phase
  /-- the response of the command in progress (R140) -/
  response : Option Response
  /-- the advance that the response's delivery would carry out (R141) -/
  advance : Option Advance
deriving DecidableEq, Repr

/-- The whole part, its waiting commands and the model's own count of idle milliseconds. -/
structure State where
  /-- the Line Unit -/
  lu : LineUnit
  /-- the View Unit -/
  vu : ViewUnit
  /-- the Prompt Timer -/
  pt : PromptTimer
  /-- the Reset Unit -/
  ru : ResetUnit
  /-- the Condition Monitor -/
  cm : ConditionMonitor
  /-- the Host Port -/
  hp : HostPort
  /-- the MODEL's own: the commands that wait, first in, first out -/
  pending : List Instr
  /-- the MODEL's own: how many idle milliseconds have passed, the argument of the free value Config.lineTimerFirst (log entry 5) -/
  ticks : Nat
deriving DecidableEq, Repr

/-- The reasons for a fault. There is NONE: every operation and event of the spec has an effect or none in every state, and the part
has no behaviour that stops it. A type with no constructor says so (safe: nothing is hidden behind a fault). -/
inductive Fault where
deriving DecidableEq, Repr

/-- The reasons for a refusal. -/
inductive Refusal where
  /-- Raised by exec's arm of a command that has no meaning yet. Every row of the table has its meaning, so no arm raises it.
  Safe: nothing follows from a refused step. -/
  | notModelled (mnemonic : String)
deriving DecidableEq, Repr

/-- An entry as power-on and RESTART set it, a peer's (R21). -/
def Entry.reset : Entry where
  state := .absent
  incarnation := none
  lastHeard := none
  missCount := 0
  hostState := .dormant
  attempt := 0
  flags := 0
  service := 0
  viewAgrees := true
  admission := none
  splits := 0
  mismatchSeen := false
  strangerReported := false

/-- The Line Unit as power-on and RESTART set it (R94). -/
def LineUnit.reset : LineUnit where
  state := .detached
  att := false
  driving := .nothing
  roundTimer := none
  listenWindow := none
  waitRelease := false
  recessiveTime := 0
  roundNumber := 0
  numberSet := false
  adoptOpen := false
  pos := .outside
  outcomes := []
  inStep := 0
  outOfStep := 0
  ownFrame := none
  ownWhole := false
  collisionPending := false
  condemnDrive := 0
  clearDrive := 0
  condemnField := 0
  clearField := 0
  garbledTotal := 0

/-- The View Unit as power-on and RESTART set it: the table by R21 with the own incarnation given (0 after power-on, kept by
RESTART), the sets empty, V and Q 0 (R5, R31, R30, R44, R68). The own accusation set's reset value is given by no rule: the model's is empty
(DESIGN CHOICE, log entry 20). -/
def ViewUnit.reset (own : Addr) (incarnation : Byte) : ViewUnit where
  table := (Vector.replicate 16 Entry.reset).set own { Entry.reset with incarnation := some incarnation }
  hostAccused := 0
  voters := 0
  voterCount := 0
  quorum := 0
  tally := Vector.replicate 16 0
  ownAccusations := 0
  leavePending := false
  foreignMark := false

/-- The Prompt Timer as power-on and RESTART set it (R95). -/
def PromptTimer.reset : PromptTimer where
  state := .disarmed
  remaining := 0
  expected := 1
  warn := false

/-- The Reset Unit as power-on sets it (R107), RSTSENSE reading asserted or not as the part comes out of power-on (R120). -/
def ResetUnit.reset (rstsense : Bool) : ResetUnit where
  state := .idle
  attempt := 0
  pulse := 0
  recovery := 0
  confirmed := false
  releaseRequested := false
  rstout := false
  mclrReady := true
  rstLatched := rstsense

/-- The Condition Monitor as power-on sets it: the filtered levels are the pins' (R125), the service word is 0 (R131). -/
def ConditionMonitor.reset (levels : BitVec 4) : ConditionMonitor where
  levels := levels
  service := 0

/-- The Host Port as power-on sets it (R154). -/
def HostPort.reset (address : Addr) : HostPort where
  address := address
  config := none
  digest := none
  queue := []
  lost := 0
  int := false
  snapshot := none
  cursor := 0
  phase := .deselected
  response := none
  advance := none

/-- The part right after power-on with what it sampled from its straps and pins (R154). -/
def State.powerOn (address : Addr) (levels : BitVec 4) (rstsense : Bool) : State where
  lu := LineUnit.reset
  vu := ViewUnit.reset address 0
  pt := PromptTimer.reset
  ru := ResetUnit.reset rstsense
  cm := ConditionMonitor.reset levels
  hp := HostPort.reset address
  pending := []
  ticks := 0

/-- The machine right after power-on. The straps and the condition inputs are the board's, not the spec's:
the model names address 0, all four inputs low and RSTSENSE released (DESIGN CHOICE, log entry 1). -/
def State.reset : State := State.powerOn 0 0 false

end Sys2Proof.Machine
end

