-- ==== Sys2Proof/Machine/Formats.lean ====
section
/-! DEFINITION. The byte layouts and check codes of chapter 10: the announce frame, the command and response frames of the host
port, the code tables and the event record. The records that read the whole state stand in Machine/Records.lean. -/

namespace Sys2Proof

/-! ### Bytes and check codes (R168, R169, R170) -/

/-- The bits of a byte in the order in which it travels, bit 7 first (R168). -/
def bitsOf (b : Byte) : List Bool :=
  [b.getLsbD 7, b.getLsbD 6, b.getLsbD 5, b.getLsbD 4, b.getLsbD 3, b.getLsbD 2, b.getLsbD 1, b.getLsbD 0]

/-- One bit into the CRC-16 register (R169). -/
def crc16Bit (r : BitVec 16) (d : Bool) : BitVec 16 :=
  if r.getLsbD 15 != d then (r <<< 1) ^^^ 0x1021#16 else r <<< 1

/-- The CRC-16 of some bytes: the register starts at FFFFh (R169). -/
def crc16 (bs : List Byte) : BitVec 16 :=
  bs.foldl (fun r b => (bitsOf b).foldl crc16Bit r) 0xFFFF#16

/-- One bit into the CRC-8 register (R170). -/
def crc8Bit (r : BitVec 8) (d : Bool) : BitVec 8 :=
  if r.getLsbD 7 != d then (r <<< 1) ^^^ 0x07#8 else r <<< 1

/-- The CRC-8 of some bytes: the register starts at 00h (R170). -/
def crc8 (bs : List Byte) : BitVec 8 :=
  bs.foldl (fun r b => (bitsOf b).foldl crc8Bit r) 0x00#8

/-- The first byte of a two-byte field: its most significant one (R168). -/
def highByte (w : Word16) : Byte := w.extractLsb' 8 8

/-- The second byte of a two-byte field (R168). -/
def lowByte (w : Word16) : Byte := w.extractLsb' 0 8

/-- A two-byte field from its bytes, most significant first (R168). -/
def wordOf (hi lo : Byte) : Word16 := hi ++ lo

/-- A count placed in a byte field. -/
def byteOf (n : Nat) : Byte := BitVec.ofNat 8 n

/-- One bit placed as a byte's lowest bit. -/
def bitOf (b : Bool) : BitVec 1 := BitVec.ofBool b

/-- An address as a four-bit field (R169, R172). -/
def nibbleOf (a : Addr) : BitVec 4 := BitVec.ofNat 4 a.val

/-! ### The announce frame (R169) -/

/-- The kind codes of R169. -/
def FrameKind.code (k : FrameKind) : BitVec 4 :=
  match k with
  | .announce => 0x5
  | .join => 0x9
  | .leave => 0xC

/-- The kind that a code names, none for every other code (R169). -/
def FrameKind.ofCode (c : BitVec 4) : Option FrameKind :=
  if c = 0x5 then some .announce else if c = 0x9 then some .join else if c = 0xC then some .leave else none

/-- Bytes 1 to 14 of an announce frame (R169). -/
def frameHead (kind : FrameKind) (sender : Addr) (f : FrameBody) : List Byte :=
  [kind.code ++ nibbleOf sender, f.incarnation, highByte f.round, lowByte f.round, highByte f.digest, lowByte f.digest,
   ((0#1 ++ f.hostCode) ++ (0#1 ++ f.attempt) : BitVec 8), (0#4 ++ f.flags : BitVec 8),
   highByte f.service, lowByte f.service, highByte f.view, lowByte f.view, highByte f.accuses, lowByte f.accuses]

/-- The sixteen bytes of an announce frame: the head and its CRC-16, high byte first (R169). -/
def frameBytes (kind : FrameKind) (sender : Addr) (f : FrameBody) : List Byte :=
  let head := frameHead kind sender f
  head ++ [highByte (crc16 head), lowByte (crc16 head)]

/-- What a receiver makes of the bytes of a slot: nothing where the frame is not sixteen bytes, its CRC-16 does not check, its kind
is none of the three or its sender is not the slot's (R81, R169). Unused bits are ignored. -/
def frameOfBytes (slot : Addr) (bs : List Byte) : Option (FrameKind × FrameBody) :=
  match bs with
  | [b1, b2, b3, b4, b5, b6, b7, b8, b9, b10, b11, b12, b13, b14, b15, b16] =>
    if wordOf b15 b16 = crc16 [b1, b2, b3, b4, b5, b6, b7, b8, b9, b10, b11, b12, b13, b14]
        ∧ b1.extractLsb' 0 4 = nibbleOf slot then
      match FrameKind.ofCode (b1.extractLsb' 4 4) with
      | some kind =>
        some (kind,
          { incarnation := b2, round := wordOf b3 b4, digest := wordOf b5 b6, hostCode := b7.extractLsb' 4 3,
            attempt := b7.extractLsb' 0 3, flags := b8.extractLsb' 0 4, service := wordOf b9 b10,
            view := wordOf b11 b12, accuses := wordOf b13 b14 })
      | none => none
    else none
  | _ => none

/-! ### Bits on the line (R70) -/

/-- The data bits of some bytes in the order in which they travel (R168). -/
def dataBits (bs : List Byte) : List Bool := bs.flatMap bitsOf

/-- The sender's stuffing: after four equal bits, inserted bits counted, one bit of the opposite level is inserted. `last` is the bit
before and `run` how many equal bits stand at the end so far (R70). -/
def stuffBits (last : Bool) (run : Nat) (bits : List Bool) : List Bool :=
  match bits with
  | [] => []
  | b :: rest =>
    let n := if b = last then run + 1 else 1
    if n = 4 then b :: (!b) :: stuffBits (!b) 1 rest else b :: stuffBits b n rest

/-- A frame as it goes onto the line: the dominant start bit, the stuffed data bits and the recessive end bit (R70). -/
def lineBits (bs : List Byte) : List Bool := false :: (stuffBits false 1 (dataBits bs) ++ [true])

/-- The receiver's way back, for a number of data bits still to come: a fifth equal bit is a stuffing error, too few bits or a dominant
end bit a framing error, and a dominant level after the end bit spoils the frame as well (R70, R81). -/
def unstuffBits (last : Bool) (run wanted : Nat) (bits : List Bool) : Option (List Bool) :=
  match wanted, bits with
  | 0, e :: after => if e && after.all (fun b => b) then some [] else none
  | w + 1, b :: rest =>
    let n := if b = last then run + 1 else 1
    if n = 4 then
      match rest with
      | [] => none
      | x :: rest' => if x = b then none else (unstuffBits x 1 w rest').map (fun out => b :: out)
    else (unstuffBits b n w rest).map (fun out => b :: out)
  | _, [] => none

/-- A byte from its eight bits, bit 7 first (R168). -/
def byteOfBits (b7 b6 b5 b4 b3 b2 b1 b0 : Bool) : Byte :=
  ((BitVec.ofBool b7 ++ BitVec.ofBool b6) ++ (BitVec.ofBool b5 ++ BitVec.ofBool b4)) ++
    ((BitVec.ofBool b3 ++ BitVec.ofBool b2) ++ (BitVec.ofBool b1 ++ BitVec.ofBool b0))

/-- The bytes of a list of data bits, eight at a time, bit 7 first (R136, R168). The bits of a byte left incomplete are discarded (R136). -/
def bytesOfBits (bits : List Bool) : List Byte :=
  match bits with
  | b7 :: b6 :: b5 :: b4 :: b3 :: b2 :: b1 :: b0 :: rest => byteOfBits b7 b6 b5 b4 b3 b2 b1 b0 :: bytesOfBits rest
  | _ => []

/-- The sixteen bytes that a receiver takes from the bits of a slot, none on a stuffing or framing error (R70, R81). -/
def bytesOfLine (bits : List Bool) : Option (List Byte) :=
  match bits with
  | false :: rest => (unstuffBits false 1 128 rest).map bytesOfBits
  | _ => none

/-! ### Command frames (R138, R139, R170) -/

/-- A filler byte has every bit set (R137). -/
def fillerByte : Byte := 0xFF

/-- The command code of R170. -/
def HostCommand.code (c : HostCommand) : Byte :=
  match c with
  | .status => 0x10
  | .configure _ => 0x11
  | .restart => 0x12
  | .join => 0x20
  | .leave => 0x21
  | .accuse _ => 0x22
  | .pardon _ => 0x23
  | .prompt _ => 0x30
  | .publish _ => 0x31
  | .snapshot => 0x40
  | .readEntry => 0x41
  | .discardSnapshot => 0x42
  | .readEvent => 0x48

/-- The fourteen bytes of a configuration record (R171). -/
def ConfigRecord.bytes (r : ConfigRecord) : List Byte :=
  [r.roundPeriod, r.missLimit, r.admitRounds, r.quorumFloor, highByte r.promptPeriod, lowByte r.promptPeriod,
   highByte r.warningLead, lowByte r.warningLead, r.recoveryRounds, r.resetLimit, r.pulseDuration, r.failMask,
   r.polarity, r.enables]

/-- The parameter bytes of a command (R170). -/
def HostCommand.params (c : HostCommand) : List Byte :=
  match c with
  | .configure r => r.bytes
  | .accuse a => [a]
  | .pardon a => [a]
  | .prompt n => [n]
  | .publish w => [highByte w, lowByte w]
  | .status | .restart | .join | .leave | .snapshot | .readEntry | .discardSnapshot | .readEvent => []

/-- The whole command frame: code, parameter length, parameters and CRC-8 (R138, R170). -/
def HostCommand.frame (c : HostCommand) : List Byte :=
  let body := c.code :: byteOf c.params.length :: c.params
  body ++ [crc8 body]

/-- The command that a code and its parameter bytes name; none where the code is in no row or the length is not the row's (R170). -/
def HostCommand.ofParts (code : Byte) (params : List Byte) : Option HostCommand :=
  match params with
  | [] =>
    if code = 0x10 then some .status else if code = 0x12 then some .restart else if code = 0x20 then some .join
    else if code = 0x21 then some .leave else if code = 0x40 then some .snapshot else if code = 0x41 then some .readEntry
    else if code = 0x42 then some .discardSnapshot else if code = 0x48 then some .readEvent else none
  | [a] =>
    if code = 0x22 then some (.accuse a) else if code = 0x23 then some (.pardon a)
    else if code = 0x30 then some (.prompt a) else none
  | [hi, lo] => if code = 0x31 then some (.publish (wordOf hi lo)) else none
  | [b1, b2, b3, b4, b5, b6, b7, b8, b9, b10, b11, b12, b13, b14] =>
    if code = 0x11 then
      some (.configure
        { roundPeriod := b1, missLimit := b2, admitRounds := b3, quorumFloor := b4, promptPeriod := wordOf b5 b6,
          warningLead := wordOf b7 b8, recoveryRounds := b9, resetLimit := b10, pulseDuration := b11, failMask := b12,
          polarity := b13, enables := b14 })
    else none
  | _ => none

/-- What the checks of the Host Port make of the bytes received in COMMAND (R138, R139). -/
inductive FrameCheck where
  /-- the bytes do not complete a frame -/
  | incomplete
  /-- complete, and answered BAD_CHECK -/
  | badCheck
  /-- complete, and answered BAD_COMMAND -/
  | badCommand
  /-- complete, and passes the checks of steps 1 and 2 of R139 -/
  | good (c : HostCommand)
deriving DecidableEq, Repr

/-- The checks of steps 1 and 2 of R139 on the bytes received. A length byte above 24 closes the frame, which is then answered
BAD_COMMAND without the check of its code (R138). Bytes after the one that closes the frame are not read. -/
def checkFrame (bs : List Byte) : FrameCheck :=
  match bs with
  | code :: len :: rest =>
    if len.toNat > 24 then .badCommand
    else
      match rest.drop len.toNat with
      | [] => .incomplete
      | check :: _ =>
        let params := rest.take len.toNat
        if check ≠ crc8 (code :: len :: params) then .badCheck
        else
          match HostCommand.ofParts code params with
          | some c => .good c
          | none => .badCommand
  | _ => .incomplete

/-- The profile digest: the CRC-16 of the four profile fields in order (R147, R171). -/
def profileDigest (r : ConfigRecord) : Word16 :=
  crc16 [r.roundPeriod, r.missLimit, r.admitRounds, r.quorumFloor]

end Sys2Proof

namespace Sys2Proof.Machine

/-! ### Codes (R169, R172, R170, R173) -/

/-- The host state codes of R169. -/
def HostState.code (h : HostState) : BitVec 3 :=
  match h with
  | .dormant => 0
  | .running => 1
  | .warned => 2
  | .lapsed => 3
  | .fault => 4
  | .resetting => 5
  | .held => 6

/-- The host state that a receiver records for a code; code 7 is recorded as FAULT (R169). -/
def HostState.ofCode (c : BitVec 3) : HostState :=
  if c = 0 then .dormant else if c = 1 then .running else if c = 2 then .warned else if c = 3 then .lapsed
  else if c = 4 then .fault else if c = 5 then .resetting else if c = 6 then .held else .fault

/-- The line state codes of R172. -/
def LineState.code (l : LineState) : BitVec 3 :=
  match l with
  | .detached => 0
  | .listening => 1
  | .synced => 2
  | .active => 3
  | .blocked => 4

/-- The entry state codes of R172. -/
def EntryState.code (e : EntryState) : BitVec 3 :=
  match e with
  | .absent => 0
  | .joining => 1
  | .member => 2
  | .suspect => 3
  | .recovering => 4

/-- The prompt timer state codes of R172. -/
def TimerState.code (t : TimerState) : BitVec 2 :=
  match t with
  | .disarmed => 0
  | .running => 1
  | .warned => 2
  | .lapsed => 3

/-- The reset state codes of R172. -/
def ResetState.code (r : ResetState) : BitVec 2 :=
  match r with
  | .idle => 0
  | .pulsing => 1
  | .waiting => 2
  | .held => 3

/-- The status codes of R170. -/
def Status.code (s : Status) : Byte :=
  match s with
  | .ok => 0x00
  | .empty => 0x01
  | .pending => 0x02
  | .late => 0x03
  | .refusedState => 0x10
  | .refusedValue => 0x11
  | .refusedSeq => 0x12
  | .notConfigured => 0x13
  | .badCommand => 0x20
  | .badCheck => 0x21

/-! ### Responses and event records (R170, R173) -/

/-- The response frame: status code, data length, data and CRC-8 (R140, R170). -/
def Response.bytes (r : Response) : List Byte :=
  let body := r.status.code :: byteOf r.data.length :: r.data
  body ++ [crc8 body]

/-- The code of a SUSPECTED cause (R173). -/
def SuspectCause.code (c : SuspectCause) : Byte :=
  match c with
  | .evidence => 0
  | .accused => 1
  | .self => 2
  | .split => 3

/-- The code of a LEFT reason (R173). -/
def LeftReason.code (r : LeftReason) : Byte :=
  match r with
  | .silent => 0
  | .leave => 1

/-- The code of a JOIN_FAILED reason (R173). -/
def JoinFailure.code (r : JoinFailure) : Byte :=
  match r with
  | .duplicateAddress => 0
  | .profile => 1
  | .withdrawn => 2

/-- The code of an ATTEMPT_END reason (R173). -/
def AttemptEnd.code (r : AttemptEnd) : Byte :=
  match r with
  | .confirmed => 0
  | .unconfirmed => 1
  | .rejoined => 2

/-- The code of a way of entry (R173). -/
def WayOfEntry.code (w : WayOfEntry) : Byte :=
  match w with
  | .markObserved => 0
  | .ownMark => 1

/-- The kind code of an event (R173). -/
def Event.code (e : Event) : Byte :=
  match e with
  | .joined .. => 0x01
  | .left .. => 0x02
  | .suspected .. => 0x03
  | .cleared .. => 0x04
  | .condemned .. => 0x05
  | .split .. => 0x06
  | .lost .. => 0x07
  | .heldSeen .. => 0x08
  | .restarted .. => 0x09
  | .stranger .. => 0x0A
  | .condition .. => 0x0B
  | .service .. => 0x0C
  | .profileMismatch .. => 0x0D
  | .viewMismatch .. => 0x0E
  | .joinDone .. => 0x21
  | .joinFailed .. => 0x22
  | .promptWarning .. => 0x23
  | .promptLapsed .. => 0x24
  | .inputChange .. => 0x25
  | .attemptStart .. => 0x26
  | .attemptEnd .. => 0x27
  | .hostHeld .. => 0x28
  | .hostReleased => 0x29
  | .hostResetSeen => 0x2A
  | .lineSynced .. => 0x41
  | .lineStuck => 0x42
  | .lineReleased => 0x43
  | .duplicateAddress => 0x44
  | .roundResync .. => 0x45
  | .lossRecord .. => 0x07

/-- The subject of an event, absent for the kinds that have none (R156). -/
def Event.subject (e : Event) : Option Addr :=
  match e with
  | .joined a _ | .left a _ | .suspected a _ | .cleared a | .condemned a _ | .split a _ | .lost a | .heldSeen a _
  | .restarted a _ _ | .stranger a _ | .condition a _ | .service a _ | .profileMismatch a _ | .viewMismatch a _ => some a
  | .joinDone _ | .joinFailed _ | .promptWarning _ | .promptLapsed _ | .inputChange _ | .attemptStart _ | .attemptEnd _ _
  | .hostHeld _ | .hostReleased | .hostResetSeen | .lineSynced _ | .lineStuck | .lineReleased | .duplicateAddress
  | .roundResync _ _ | .lossRecord _ => none

/-- Detail bytes 5 to 8 of an event record (R173). -/
def Event.detail (e : Event) : List Byte :=
  match e with
  | .joined _ i | .stranger _ i | .joinDone i => [i, 0, 0, 0]
  | .left _ r => [r.code, 0, 0, 0]
  | .suspected _ c => [c.code, 0, 0, 0]
  | .condemned _ n | .split _ n | .attemptStart n | .hostHeld n | .lossRecord n => [byteOf n, 0, 0, 0]
  | .heldSeen _ n => [(0#5 ++ n : BitVec 8), 0, 0, 0]
  | .restarted _ o n => [o, n, 0, 0]
  | .condition _ f | .inputChange f => [(0#4 ++ f : BitVec 8), 0, 0, 0]
  | .service _ w | .profileMismatch _ w | .viewMismatch _ w => [highByte w, lowByte w, 0, 0]
  | .joinFailed r => [r.code, 0, 0, 0]
  | .promptWarning n | .promptLapsed n => [n, 0, 0, 0]
  | .attemptEnd r n => [r.code, byteOf n, 0, 0]
  | .lineSynced w => [w.code, 0, 0, 0]
  | .roundResync o n => [highByte o, lowByte o, highByte n, lowByte n]
  | .cleared _ | .lost _ | .hostReleased | .hostResetSeen | .lineStuck | .lineReleased | .duplicateAddress => [0, 0, 0, 0]

/-- The eight bytes of an event record; the subject byte is FFh when the subject is absent (R173). -/
def EventRecord.bytes (r : EventRecord) : List Byte :=
  [r.event.code, highByte r.round, lowByte r.round,
   match r.event.subject with
   | some a => byteOf a.val
   | none => 0xFF] ++ r.event.detail

/-- The classes of R157. -/
inductive EventClass where
  | peer
  | self
  | line
deriving DecidableEq, Repr

/-- The class of an event at the station with the given address, none for the loss record (R157). -/
def Event.klass (own : Addr) (e : Event) : Option EventClass :=
  match e with
  | .suspected a _ | .cleared a | .condemned a _ | .split a _ => if a = own then some .self else some .peer
  | .joined .. | .left .. | .lost .. | .heldSeen .. | .restarted .. | .stranger .. | .condition .. | .service ..
  | .profileMismatch .. | .viewMismatch .. => some .peer
  | .joinDone _ | .joinFailed _ | .promptWarning _ | .promptLapsed _ | .inputChange _ | .attemptStart _ | .attemptEnd ..
  | .hostHeld _ | .hostReleased | .hostResetSeen => some .self
  | .lineSynced _ | .lineStuck | .lineReleased | .duplicateAddress | .roundResync .. => some .line
  | .lossRecord _ => none

end Sys2Proof.Machine
end

