-- ==== Sys2Proof/Machine/Ops.lean ====
section
/-! DEFINITION. The shared operations over the state: the configuration's values, the Peer Table, the event queue, evidence and
suspicion, the Prompt Timer, the Reset Unit, and the steps of a departure. Each command's meaning is put together from these. -/

namespace Sys2Proof.Machine

/-! ### The configuration's values (R144) -/

/-- The record of an unconfigured station: no rule reads it, because every block that reads the record is still then (R76, R143). -/
def unsetRecord : ConfigRecord where
  roundPeriod := 0
  missLimit := 0
  admitRounds := 0
  quorumFloor := 0
  promptPeriod := 0
  warningLead := 0
  recoveryRounds := 0
  resetLimit := 0
  pulseDuration := 0
  failMask := 0
  polarity := 0
  enables := 0

/-- The configured flag (R143). -/
def State.configured (s : State) : Bool := s.hp.config.isSome

/-- The stored configuration record (R144). -/
def State.cfg (s : State) : ConfigRecord := s.hp.config.getD unsetRecord

/-- The round period in ms (R144). -/
def State.roundPeriodMs (s : State) : Nat := 10 * s.cfg.roundPeriod.toNat

/-- The miss limit (R144). -/
def State.missLimit (s : State) : Nat := s.cfg.missLimit.toNat

/-- The admit rounds (R144). -/
def State.admitRounds (s : State) : Nat := s.cfg.admitRounds.toNat

/-- The quorum floor (R144). -/
def State.quorumFloor (s : State) : Nat := s.cfg.quorumFloor.toNat

/-- The recovery rounds (R144). -/
def State.recoveryRounds (s : State) : Nat := s.cfg.recoveryRounds.toNat

/-- The reset limit (R144). -/
def State.resetLimit (s : State) : Nat := s.cfg.resetLimit.toNat

/-- The pulse duration D in ms (R110). -/
def State.pulseMs (s : State) : Nat := 10 * s.cfg.pulseDuration.toNat

/-- The prompt period P in ms (R96). -/
def State.promptPeriod (s : State) : Nat := s.cfg.promptPeriod.toNat

/-- The warning lead W in ms (R96). -/
def State.warningLead (s : State) : Nat := s.cfg.warningLead.toNat

/-- The line state is SYNCED or ACTIVE: rounds pass at the station (R76). -/
def State.online (s : State) : Bool := s.lu.state == .synced || s.lu.state == .active

/-! ### The event queue (R156 to R163) -/

/-- Whether the event class enables hold a class: all three before configuration (R148), then the configured subset (R171). The
loss record has no class and is subject to no enable (R157). -/
def HostPort.enabled (h : HostPort) (c : Option EventClass) : Bool :=
  match h.config, c with
  | none, _ => true
  | _, none => true
  | some r, some .peer => r.enables.getLsbD 0
  | some r, some .self => r.enables.getLsbD 1
  | some r, some .line => r.enables.getLsbD 2

/-- An enabled post reaches the queue: appended (R158), discarded and counted (R159), or preceded by a loss record (R160). -/
def HostPort.enqueue (r : EventRecord) (h : HostPort) : HostPort :=
  if h.queue.length ≥ Config.queueCapacity then
    { h with lost := satAdd Config.lostMax h.lost }
  else if h.lost = 0 then
    { h with queue := h.queue ++ [r], int := true }
  else if h.queue.length + 2 ≤ Config.queueCapacity then
    { h with queue := h.queue ++ [{ round := r.round, event := .lossRecord h.lost }, r], lost := 0, int := true }
  else
    { h with queue := h.queue ++ [{ round := r.round, event := .lossRecord h.lost }], lost := 1, int := true }

/-- A block posts an event: the record takes the Line Unit's round number of this moment (R156), and a class that is not enabled
discards it at once (R157). -/
def State.post (e : Event) (s : State) : State :=
  { s with hp :=
      if s.hp.enabled (e.klass s.hp.address) then s.hp.enqueue { round := s.lu.roundNumber, event := e } else s.hp }

/-- The head record leaves the queue; INT is released with the last record (R161, R163). -/
def HostPort.removeHead (h : HostPort) : HostPort :=
  { h with queue := h.queue.tail, int := !h.queue.tail.isEmpty }

/-- The read cursor after a READ_ENTRY delivered whole: one greater, and after 15 the buffer is FREE with cursor 0 (R165). -/
def HostPort.advanceCursor (h : HostPort) : HostPort :=
  if h.cursor.val < 15 then { h with cursor := h.cursor + 1 } else { h with snapshot := none, cursor := 0 }

/-! ### The Peer Table (R1 to R4) -/

/-- The own address (R154). -/
def State.ownAddr (s : State) : Addr := s.hp.address

/-- The entry of an address (R1). -/
def State.entry (s : State) (a : Addr) : Entry := s.vu.table[a]

/-- The own entry (R2). -/
def State.own (s : State) : Entry := s.entry s.ownAddr

/-- The own incarnation, which is always present (R2). -/
def State.ownIncarnation (s : State) : Byte := s.own.incarnation.getD 0

/-- An entry is replaced; no other entry changes. -/
def State.setEntry (a : Addr) (e : Entry) (s : State) : State :=
  { s with vu := { s.vu with table := s.vu.table.set a e } }

/-- A change made to one entry. -/
def State.modifyEntry (a : Addr) (f : Entry → Entry) (s : State) : State :=
  s.setEntry a (f (s.entry a))

/-- A member is a station whose entry is MEMBER or SUSPECT (Terms). -/
def EntryState.isMember (e : EntryState) : Bool :=
  match e with
  | .member | .suspect => true
  | .absent | .joining | .recovering => false

/-- The entry takes a state. The admission rounds remaining are present in JOINING alone (R1), and an entry that enters ABSENT
from another state loses its counts and its stranger mark and keeps the rest (R4). -/
def Entry.moveTo (st : EntryState) (e : Entry) : Entry :=
  let e1 := { e with state := st, admission := if st = .joining then e.admission else none }
  if st = .absent ∧ e.state ≠ .absent then
    { e1 with missCount := 0, splits := 0, strangerReported := false }
  else e1

/-- The entry becomes JOINING with the given admission rounds remaining (R50, R56, R58). -/
def Entry.startJoining (rounds : Nat) (e : Entry) : Entry :=
  { e.moveTo .joining with admission := some rounds }

/-- The reported fields of a frame are recorded (R7). -/
def Entry.report (f : FrameBody) (e : Entry) : Entry :=
  { e with hostState := HostState.ofCode f.hostCode, attempt := f.attempt, flags := f.flags, service := f.service }

/-- The incarnation of a frame is recorded (R7). -/
def Entry.recordIncarnation (f : FrameBody) (e : Entry) : Entry :=
  { e with incarnation := some f.incarnation }

/-- An address that is not a member leaves the host accusation set (R44). -/
def State.dropAccusation (a : Addr) (s : State) : State :=
  { s with vu := { s.vu with hostAccused := eraseAddr a s.vu.hostAccused } }

/-- An entry is changed, and the address leaves the host accusation set when the entry is no member afterwards (R44). -/
def State.moveEntry (a : Addr) (f : Entry → Entry) (s : State) : State :=
  if (f (s.entry a)).state.isMember then s.modifyEntry a f else (s.modifyEntry a f).dropAccusation a

/-! ### Evidence and suspicion (R23 to R29) -/

/-- A recorded host state that is evidence: LAPSED or FAULT (R23, R25). -/
def HostState.isFailing (h : HostState) : Bool :=
  match h with
  | .lapsed | .fault => true
  | .dormant | .running | .warned | .resetting | .held => false

/-- Evidence against a peer (R23): both entries are members, and there is miss, report or host evidence. -/
def State.evidence (s : State) (j : Addr) : Bool :=
  j != s.ownAddr && s.own.state.isMember && (s.entry j).state.isMember &&
    (decide (s.missLimit ≤ (s.entry j).missCount) || (s.entry j).hostState.isFailing || inSet j s.vu.hostAccused)

/-- Self-evidence, judged by the own entry's recorded host state (R25). -/
def State.selfEvidence (s : State) : Bool := s.own.state.isMember && s.own.hostState.isFailing

/-- What the clearing test asks of an address: evidence against a peer, self-evidence at the own address (R42). -/
def State.evidenceAt (s : State) (j : Addr) : Bool :=
  if j = s.ownAddr then s.selfEvidence else s.evidence j

/-- A MEMBER entry becomes SUSPECT and SUSPECTED is posted; any other entry is left as it is (R27, R28, R29, R40). -/
def State.suspect (j : Addr) (cause : SuspectCause) (s : State) : State :=
  if (s.entry j).state = .member then
    (s.modifyEntry j (Entry.moveTo .suspect)).post (.suspected j cause)
  else s

/-- The evidence test of R27 for one entry. -/
def State.testEvidence (j : Addr) (s : State) : State :=
  if s.evidence j then s.suspect j .evidence else s

/-- The number of accusers of an address in the tally of the round (R30). -/
def State.accusers (s : State) (j : Addr) : Nat := setSize s.vu.tally[j]

/-- A voter is added to the accusers of every address of an accusation set (R30). -/
def addAccuser (voter : Addr) (accused : AddrSet) (tally : Vector AddrSet 16) : Vector AddrSet 16 :=
  allAddrs.foldl (fun t j => if inSet j accused then t.set j (insertAddr voter t[j]) else t) tally

/-- A frame's accusation set is counted, when its sender is in the voter set of the round (R30). -/
def State.countAccusations (voter : Addr) (accused : AddrSet) (s : State) : State :=
  if inSet voter s.vu.voters then
    { s with vu := { s.vu with tally := addAccuser voter accused s.vu.tally } }
  else s

/-! ### The Prompt Timer (R95 to R106) -/

/-- Arming: RUNNING with remaining time P and expected sequence number 1 (R97). -/
def State.armTimer (s : State) : State :=
  { s with pt := { state := .running, remaining := s.promptPeriod, expected := 1, warn := false } }

/-- Disarming: DISARMED with remaining time 0 and WARN released; the expected sequence number stays (R103). -/
def State.disarmTimer (s : State) : State :=
  { s with pt := { s.pt with state := .disarmed, remaining := 0, warn := false } }

/-- The remaining time reaches W in RUNNING: WARNED, WARN asserted, PROMPT_WARNING posted (R98). -/
def State.warnTimer (s : State) : State :=
  if s.pt.state = .running then
    { s with pt := { s.pt with state := .warned, remaining := s.warningLead, warn := true } }.post
      (.promptWarning s.pt.expected)
  else s

/-- The remaining time reaches 0 in WARNED: LAPSED, PROMPT_LAPSED posted (R99). -/
def State.lapseTimer (s : State) : State :=
  if s.pt.state = .warned then
    { s with pt := { s.pt with state := .lapsed, remaining := 0, warn := true } }.post (.promptLapsed s.pt.expected)
  else s

/-! ### The Reset Unit (R107 to R124) -/

/-- An attempt starts (R110, R114). -/
def State.startAttempt (s : State) : State :=
  { s with ru := { s.ru with
      state := .pulsing, attempt := s.ru.attempt + 1, pulse := s.pulseMs, recovery := 0, confirmed := false,
      rstout := true } }.post (.attemptStart (s.ru.attempt + 1))

/-- The pulse ends (R112). -/
def State.endPulse (s : State) : State :=
  if s.ru.state = .pulsing then
    { s with ru := { s.ru with state := .waiting, pulse := 0, recovery := s.recoveryRounds, rstout := false } }.post
      (.attemptEnd (if s.ru.confirmed then .confirmed else .unconfirmed) s.ru.attempt)
  else s

/-- The recovery ends in hold: HELD, RSTOUT asserted, HOST_HELD posted, and the own entry becomes ABSENT (R115). -/
def State.hold (s : State) : State :=
  ({ s with ru := { s.ru with state := .held, recovery := 0, rstout := true } }.post (.hostHeld s.ru.attempt)).moveEntry
    s.ownAddr (Entry.moveTo .absent)

/-- The recovery window ends: the next attempt below the reset limit, else the hold (R113, R114, R115). -/
def State.endWindow (s : State) : State :=
  if s.ru.attempt < s.resetLimit then s.startAttempt else s.hold

/-- The Reset Unit takes a round beginning: counted in WAITING alone, and the window ends when the count reaches 0 (R113). -/
def State.countRecoveryRound (s : State) : State :=
  if s.ru.state = .waiting then
    if s.ru.recovery ≤ 1 then s.endWindow
    else { s with ru := { s.ru with recovery := s.ru.recovery - 1 } }
  else s

/-- The host has rejoined in WAITING: the attempt ends (R116). -/
def State.rejoin (s : State) : State :=
  if s.ru.state = .waiting then
    let s1 := { s with ru := { s.ru with state := .idle, recovery := 0, confirmed := false, rstout := false } }.post
      (.attemptEnd .rejoined s.ru.attempt)
    { s1 with ru := { s1.ru with attempt := 0 } }
  else s

/-- A release of the host is carried out (R119). -/
def State.releaseHost (s : State) : State :=
  { s with ru := { s.ru with
      state := .idle, releaseRequested := false, attempt := 0, confirmed := false, rstout := false } }.post .hostReleased

/-- A requested release is carried out, if one stands (R119). -/
def State.releaseIfRequested (s : State) : State :=
  if s.ru.state = .held ∧ s.ru.releaseRequested = true then s.releaseHost else s

/-! ### Departure (R62, R66) -/

/-- The six steps of R62, for an accepted LEAVE and for an external host reset that acts as one. -/
def State.depart (s : State) : State :=
  let s1 := s.disarmTimer
  let s2 := { s1 with vu := { s1.vu with hostAccused := 0 }, cm := { s1.cm with service := 0 } }
  let s3 := if s2.own.state = .joining then s2.post (.joinFailed .withdrawn) else s2
  let s4 := s3.moveEntry s3.ownAddr (Entry.moveTo .absent)
  { s4 with vu := { s4.vu with leavePending := true } }

end Sys2Proof.Machine
end

