-- ==== Sys2Proof/Machine/Operands.lean ====
section
/-! DEFINITION. The operand forms: the address byte of ACCUSE and PARDON, the configuration record's ranges, the straps, and what
the Line Unit makes of the reading of a slot. -/

namespace Sys2Proof.Machine

/-- An address parameter: a byte of 0 to 15 names an address, any other names none (R45, R46, R170). -/
def addrOfByte (b : Byte) : Option Addr :=
  if h : b.toNat < 16 then some ⟨b.toNat, h⟩ else none

/-- The own address from the straps: ADDR0 is the least significant bit (R154). -/
def addrOfStraps (straps : BitVec 4) : Addr := ⟨straps.toNat, straps.isLt⟩

/-- The values test of CONFIGURE: each field in its range, and every unused bit zero (R144, R145, R171). -/
def recordInRange (r : ConfigRecord) : Bool :=
  decide (2 ≤ r.roundPeriod.toNat) &&
  decide (1 ≤ r.missLimit.toNat) && decide (r.missLimit.toNat ≤ 7) &&
  decide (1 ≤ r.admitRounds.toNat) && decide (r.admitRounds.toNat ≤ 8) &&
  decide (1 ≤ r.quorumFloor.toNat) && decide (r.quorumFloor.toNat ≤ 16) &&
  decide (2 ≤ r.recoveryRounds.toNat) &&
  decide (1 ≤ r.resetLimit.toNat) && decide (r.resetLimit.toNat ≤ 7) &&
  decide (1 ≤ r.pulseDuration.toNat) &&
  decide (100 ≤ r.promptPeriod.toNat) &&
  decide (10 ≤ r.warningLead.toNat) && decide (r.warningLead.toNat + 10 ≤ r.promptPeriod.toNat) &&
  decide (r.failMask.toNat < 16) && decide (r.polarity.toNat < 16) && decide (r.enables.toNat < 8)

/-- What the Line Unit decodes from a slot before it compares profiles and round numbers (R81). -/
inductive Reception where
  | silent
  | garbled
  | frame (kind : FrameKind) (body : FrameBody)
deriving DecidableEq, Repr

/-- The reading of a slot: SILENT, GARBLED by any of R81's tests, or a frame that passes every one of them (R70, R81, R169). -/
def receptionOf (slot : Addr) (r : SlotReading) : Reception :=
  match r with
  | .silent => .silent
  | .badStart => .garbled
  | .levels bits =>
    match (bytesOfLine bits).bind (frameOfBytes slot) with
    | some (kind, body) => .frame kind body
    | none => .garbled

end Sys2Proof.Machine
end

