-- ==== Sys2Proof/Machine/Flags.lean ====
section
/-! DEFINITION. The condition flags, the failing condition and the host state of the own frame, each computed from the state it
follows (R126, R128, R105, R121). -/

namespace Sys2Proof.Machine

/-- The four condition flags: not asserted before configuration; then bit n is asserted when COND n's filtered level is the
active one, high for an active-high input and low for an active-low one (R126, R171). -/
def State.condFlags (s : State) : BitVec 4 :=
  match s.hp.config with
  | none => 0
  | some r => s.cm.levels ^^^ r.polarity.extractLsb' 0 4

/-- The failing condition: a flag named in the fail mask is asserted; none before configuration (R128). -/
def State.failing (s : State) : Bool :=
  match s.hp.config with
  | none => false
  | some r => s.condFlags &&& r.failMask.extractLsb' 0 4 != 0

/-- The host state of the own frame, by the priority order of R121. -/
def State.ownHostState (s : State) : HostState :=
  match s.ru.state with
  | .held => .held
  | .pulsing | .waiting => .resetting
  | .idle =>
    if s.pt.state = .lapsed then .lapsed
    else if s.failing then .fault
    else if s.pt.state = .warned then .warned
    else if s.pt.state = .running then .running
    else .dormant

end Sys2Proof.Machine
end

