-- ==== Sys2Proof/Machine/View.lean ====
section
/-! DEFINITION. The View Unit's shared work: how a received frame is applied to its sender's entry, under observer adoption and under
the protocol rules; the own frame and the own accusation set; the drive set of the verdict field; and the round-end work. -/

namespace Sys2Proof.Machine

/-! ### Steps of applying a frame (R6, R17, R18, R28, R30) -/

/-- What every FRAME does before it is applied by its kind: the miss count 0, the last heard round, profile mismatch seen no (R6, R20). -/
def Entry.hear (f : FrameBody) (e : Entry) : Entry :=
  { e with missCount := 0, lastHeard := some f.round, mismatchSeen := false }

/-- CONDITION and then SERVICE for the reported fields that a frame changes against the entry before it (R18). -/
def State.postChanges (k : Addr) (old : Entry) (f : FrameBody) (s : State) : State :=
  let s1 := if old.flags ≠ f.flags then s.post (.condition k f.flags) else s
  if old.service ≠ f.service then s1.post (.service k f.service) else s1

/-- The view agreement step, for a voter of the round; VIEW_MISMATCH is posted under the protocol rules on a change to no (R17). -/
def State.compareView (k : Addr) (f : FrameBody) (posts : Bool) (s : State) : State :=
  if inSet k s.vu.voters then
    let agrees := f.view == s.vu.voters
    let s1 := s.modifyEntry k (fun e => { e with viewAgrees := agrees })
    if posts && (s.entry k).viewAgrees && !agrees then s1.post (.viewMismatch k f.view) else s1
  else s

/-- The accusation step: each MEMBER that a voter's frame accuses becomes SUSPECT, in ascending order (R28), and the accusations are
counted (R30). -/
def State.takeAccusations (k : Addr) (f : FrameBody) (s : State) : State :=
  let s1 :=
    if inSet k s.vu.voters then
      allAddrs.foldl (fun t j => if inSet j f.accuses then t.suspect j .accused else t) s
    else s
  s1.countAccusations k f.accuses

/-- The incarnation check of R14 and R15: the entry has a recorded incarnation that differs from the frame's. -/
def Entry.differs (f : FrameBody) (e : Entry) : Bool :=
  match e.incarnation with
  | some i => i != f.incarnation
  | none => false

/-! ### Observer adoption (R8, R9) -/

/-- The state that observer adoption gives an entry (R8, R9). -/
def adoptedState (kind : FrameKind) (f : FrameBody) (old : EntryState) : EntryState :=
  match kind with
  | .join => .joining
  | .leave => .absent
  | .announce =>
    match HostState.ofCode f.hostCode with
    | .held => .absent
    | .resetting => .recovering
    | .dormant | .running | .warned | .lapsed | .fault => if old = .recovering then .absent else .member

/-- An entry under observer adoption: its state by R8 and R9, the admission count set on entry into JOINING, the splits count
emptied on entry into RECOVERING, the incarnation and the reported fields copied. -/
def Entry.adopt (kind : FrameKind) (f : FrameBody) (admitRounds : Nat) (e : Entry) : Entry :=
  let st := adoptedState kind f e.state
  let e1 := ((e.moveTo st).recordIncarnation f).report f
  if e.state = st then e1
  else
    match st with
    | .joining => { e1 with admission := some admitRounds }
    | .recovering => { e1 with splits := 0 }
    | .absent | .member | .suspect => e1

/-- A frame under observer adoption (R6, R8, R9): no event about the sender's standing. An ANNOUNCE that did not make the entry
ABSENT goes on to view agreement and the tally. -/
def State.adoptFrame (kind : FrameKind) (k : Addr) (f : FrameBody) (s : State) : State :=
  let s1 := s.moveEntry k (Entry.adopt kind f s.admitRounds)
  if kind = .announce ∧ (s1.entry k).state ≠ .absent then
    (s1.compareView k f false).countAccusations k f.accuses
  else s1

/-! ### The protocol rules -/

/-- An entry whose station is found with another incarnation becomes ABSENT and RESTARTED is posted (R14, R15). -/
def State.restartedEntry (k : Addr) (f : FrameBody) (s : State) : State :=
  let old := (s.entry k).incarnation.getD 0
  (s.moveEntry k (fun e => (e.moveTo .absent).recordIncarnation f)).post (.restarted k old f.incarnation)

/-- The held announcement of a station whose entry is not ABSENT: ABSENT, recorded, HELD_SEEN (R117). -/
def State.heldEntry (k : Addr) (f : FrameBody) (s : State) : State :=
  (s.moveEntry k (fun e => ((e.moveTo .absent).recordIncarnation f).report f)).post (.heldSeen k f.attempt)

/-- A peer's admission completes: MEMBER, JOINED posted, the evidence test made (R56, R57, R27). -/
def State.admitPeer (k : Addr) (f : FrameBody) (s : State) : State :=
  ((s.modifyEntry k (fun e => ((e.moveTo .member).recordIncarnation f).report f)).post
    (.joined k f.incarnation)).testEvidence k

/-- An ANNOUNCE frame from an ABSENT entry: the held announcement is recorded in part, any other frame is a stranger's (R16). -/
def State.announceFromAbsent (k : Addr) (f : FrameBody) (s : State) : State :=
  if HostState.ofCode f.hostCode = .held then
    s.modifyEntry k (fun e => { e.recordIncarnation f with hostState := .held, attempt := f.attempt })
  else
    let s1 := s.modifyEntry k (fun e => { e.recordIncarnation f with strangerReported := true })
    if (s.entry k).strangerReported then s1 else s1.post (.stranger k f.incarnation)

/-- An ANNOUNCE frame from a JOINING entry (R15, R57). -/
def State.announceFromJoining (k : Addr) (f : FrameBody) (s : State) : State :=
  if (s.entry k).differs f then s.restartedEntry k f
  else
    match HostState.ofCode f.hostCode with
    | .held => s.heldEntry k f
    | .resetting => s.moveEntry k (fun e => ((e.moveTo .absent).recordIncarnation f).report f)
    | .dormant | .running | .warned | .lapsed | .fault => s.admitPeer k f

/-- An ANNOUNCE frame from a MEMBER, SUSPECT or RECOVERING entry: incarnation (R14), held announcement (R117), reports and their
events (R7, R18), the evidence test (R27, R130), view agreement (R17), accusations (R28, R30). -/
def State.announceFromMember (k : Addr) (f : FrameBody) (s : State) : State :=
  if (s.entry k).differs f then s.restartedEntry k f
  else if HostState.ofCode f.hostCode = .held then s.heldEntry k f
  else
    let s1 := (s.modifyEntry k (fun e => (e.recordIncarnation f).report f)).postChanges k (s.entry k) f
    ((s1.testEvidence k).compareView k f true).takeAccusations k f

/-- An ANNOUNCE frame under the protocol rules, by the state of the entry (R6). -/
def State.applyAnnounce (k : Addr) (f : FrameBody) (s : State) : State :=
  match (s.entry k).state with
  | .absent => s.announceFromAbsent k f
  | .joining => s.announceFromJoining k f
  | .member | .suspect | .recovering => s.announceFromMember k f

/-- A JOIN frame from a JOINING entry with the recorded incarnation: the count falls by 1, and at 0 the admission completes (R56). -/
def State.countJoin (k : Addr) (f : FrameBody) (s : State) : State :=
  let left := (s.entry k).admission.getD 0
  if left ≤ 1 then s.admitPeer k f
  else
    (s.modifyEntry k (fun e => { (e.recordIncarnation f).report f with admission := some (left - 1) })).postChanges
      k (s.entry k) f

/-- A JOIN frame from a member is taken as a restart (R58). -/
def State.restartPeer (k : Addr) (f : FrameBody) (s : State) : State :=
  let old := (s.entry k).incarnation.getD 0
  let s1 := s.moveEntry k (fun e =>
    { ((e.startJoining s.admitRounds).recordIncarnation f).report f with splits := 0 })
  (s1.postChanges k (s.entry k) f).post (.restarted k old f.incarnation)

/-- A peer's admission begins, or begins again: JOINING with the admit rounds to go, incarnation and reports recorded (R56, R7). -/
def State.beginAdmission (k : Addr) (f : FrameBody) (s : State) : State :=
  s.moveEntry k (fun e => ((e.startJoining s.admitRounds).recordIncarnation f).report f)

/-- A JOIN frame under the protocol rules, by the state of the entry (R56, R58). An entry that leaves ABSENT is not compared (R18). One that
leaves RECOVERING, or begins its admission again, is none of R18's exceptions: the recording of its reports posts CONDITION and SERVICE (R7, R18,
R134), and R56's 'nothing is posted' is read as being of the admission, which posts no record of its own (DEDUCED, log entry 13). -/
def State.applyJoin (k : Addr) (f : FrameBody) (s : State) : State :=
  match (s.entry k).state with
  | .absent => s.beginAdmission k f
  | .recovering => (s.beginAdmission k f).postChanges k (s.entry k) f
  | .joining =>
    if (s.entry k).differs f then (s.beginAdmission k f).postChanges k (s.entry k) f
    else s.countJoin k f
  | .member | .suspect => s.restartPeer k f

/-- A LEAVE frame under the protocol rules: ABSENT, recorded, LEFT posted unless the entry was ABSENT (R64). -/
def State.applyLeave (k : Addr) (f : FrameBody) (s : State) : State :=
  let s1 := s.moveEntry k (fun e => ((e.moveTo .absent).recordIncarnation f).report f)
  if (s.entry k).state = .absent then s1 else s1.post (.left k .leave)

/-- A slot outcome of FRAME at the View Unit (R6). -/
def State.applyFrame (kind : FrameKind) (k : Addr) (f : FrameBody) (s : State) : State :=
  let s1 := s.modifyEntry k (Entry.hear f)
  if s1.own.state = .absent then s1.adoptFrame kind k f
  else
    match kind with
    | .announce => s1.applyAnnounce k f
    | .join => s1.applyJoin k f
    | .leave => s1.applyLeave k f

/-- A FOREIGN outcome at the View Unit: the peer is marked and PROFILE_MISMATCH posted once (R19), and a joining station marks the
round (R54). -/
def State.applyForeign (k : Addr) (digest : Word16) (s : State) : State :=
  let s1 :=
    if (s.entry k).mismatchSeen then s
    else (s.modifyEntry k (fun e => { e with mismatchSeen := true })).post (.profileMismatch k digest)
  if s1.own.state = .joining then { s1 with vu := { s1.vu with foreignMark := true } } else s1

/-- An OUT_OF_STEP outcome at the View Unit: profile mismatch seen is cleared (R6, R20). -/
def State.applyOutOfStep (k : Addr) (s : State) : State :=
  s.modifyEntry k (fun e => { e with mismatchSeen := false })

/-! ### A round begins (R5, R30, R31, R54) -/

/-- The voter set, V and Q of the round are fixed, the tally is emptied and the mark of a joining round cleared. -/
def State.formVoters (s : State) : State :=
  let voters := setWhere (fun a => (s.entry a).state.isMember)
  { s with vu := { s.vu with
      voters := voters, voterCount := setSize voters,
      quorum := max s.quorumFloor (setSize voters / 2 + 1),
      tally := Vector.replicate 16 0, foreignMark := false } }

/-! ### The own slot (R2, R25, R26, R29, R30, R51) -/

/-- The own entry's reported fields are set to those the own frame carries (R2). -/
def State.recordOwnReport (s : State) : State :=
  s.modifyEntry s.ownAddr (fun e =>
    { e with hostState := s.ownHostState, attempt := BitVec.ofNat 3 s.ru.attempt, flags := s.condFlags,
             service := s.cm.service })

/-- The own accusation set: the peers there is evidence against, and the own address on self-evidence; empty unless the own entry
is MEMBER or SUSPECT (R26). -/
def State.accusationSet (s : State) : AddrSet := setWhere s.evidenceAt

/-- The kind of the own frame (R51). -/
def State.ownKind (s : State) : FrameKind :=
  if s.vu.leavePending then .leave else if s.own.state = .joining then .join else .announce

/-- The fields of the own frame (R51, R169). -/
def State.ownBody (s : State) : FrameBody where
  incarnation := s.ownIncarnation
  round := s.lu.roundNumber
  digest := s.hp.digest.getD 0
  hostCode := s.ownHostState.code
  attempt := BitVec.ofNat 3 s.ru.attempt
  flags := s.condFlags
  service := s.cm.service
  view := s.vu.voters
  accuses := s.vu.ownAccusations

/-- The bits of the own frame on the line (R70, R169). -/
def State.ownFrameBits (s : State) : List Bool :=
  match s.lu.ownFrame with
  | some fr => lineBits (frameBytes fr.kind s.ownAddr fr.body)
  | none => []

/-- The View Unit at the start of the own slot: the reported fields are recorded, the own accusation set is built, a MEMBER that
accuses itself becomes SUSPECT with cause SELF, and a voter's own accusations are counted (R2, R26, R29, R30). -/
def State.composeOwn (s : State) : State :=
  let s1 := s.recordOwnReport
  let accused := s1.accusationSet
  let s2 := { s1 with vu := { s1.vu with ownAccusations := accused } }
  let s3 := if inSet s2.ownAddr accused then s2.suspect s2.ownAddr .self else s2
  s3.countAccusations s3.ownAddr accused

/-! ### The verdict field (R33, R34) -/

/-- The station abstains: more OUT_OF_STEP than FRAME outcomes in the round (R33). -/
def State.abstains (s : State) : Bool := decide (s.lu.inStep < s.lu.outOfStep)

/-- Whether the station drives (R33). -/
def State.drives (s : State) : Bool :=
  inSet s.ownAddr s.vu.voters && s.own.state.isMember && s.lu.state == .active && !s.abstains

/-- The CONDEMN positions that the station drives: each SUSPECT peer whose accusers reach Q (R34). -/
def State.condemnSet (s : State) : AddrSet :=
  if s.drives then
    setWhere (fun j => j != s.ownAddr && (s.entry j).state == .suspect && decide (s.vu.quorum ≤ s.accusers j))
  else 0

/-- The CLEAR positions that the station drives: every other SUSPECT peer (R34). -/
def State.clearSet (s : State) : AddrSet :=
  if s.drives then
    setWhere (fun j => j != s.ownAddr && (s.entry j).state == .suspect && decide (s.accusers j < s.vu.quorum))
  else 0

/-! ### The round-end work (R36) -/

/-- The outcome of a slot of the round. A slot that was passed over was recessive throughout and is SILENT (R81, log entry 4). -/
def LineUnit.outcomeOf (l : LineUnit) (k : Addr) : SlotOutcome :=
  match l.outcomes.find? (fun p => p.1 == k) with
  | some p => p.2
  | none => .silent

/-- The slot yielded a FRAME. -/
def SlotOutcome.isFrame (o : SlotOutcome) : Bool :=
  match o with
  | .frame _ => true
  | .silent | .garbled | .foreign | .outOfStep _ => false

/-- Step 1 for one address: a counted peer whose slot yielded no FRAME misses, and at the miss limit a RECOVERING entry is LOST, a
JOINING one LEFT, and a MEMBER tested for evidence (R10 to R13, R27). -/
def State.accountMiss (j : Addr) (s : State) : State :=
  if j = s.ownAddr ∨ (s.entry j).state = .absent ∨ (s.lu.outcomeOf j).isFrame = true then s
  else
    let s1 := s.modifyEntry j (fun e => { e with missCount := satAdd Config.missMax e.missCount })
    if (s1.entry j).missCount < s1.missLimit then s1
    else
      match (s1.entry j).state with
      | .recovering => (s1.moveEntry j (Entry.moveTo .absent)).post (.lost j)
      | .joining => (s1.moveEntry j (Entry.moveTo .absent)).post (.left j .silent)
      | .member | .suspect | .absent => s1.testEvidence j

/-- The outcomes of the verdict field for one address (R36). -/
inductive Verdict where
  | none
  | condemn
  | clear
  | split
deriving DecidableEq, Repr

/-- The outcome read from the two positions of an address (R36). -/
def verdictOf (condemn clear : AddrSet) (j : Addr) : Verdict :=
  match inSet j condemn, inSet j clear with
  | false, false => .none
  | true, false => .condemn
  | false, true => .clear
  | true, true => .split

/-- A CONDEMN outcome for a peer that is a member (R37). -/
def State.condemnPeer (j : Addr) (s : State) : State :=
  (s.moveEntry j (fun e => { e.moveTo .recovering with missCount := 0, splits := 0 })).post
    (.condemned j (s.accusers j))

/-- A CONDEMN outcome at the own address while the own entry is a member: the six steps of R38. -/
def State.condemnOwn (s : State) : State :=
  let s1 := s.modifyEntry s.ownAddr (fun e => { e.moveTo .recovering with splits := 0 })
  let s2 := s1.post (.condemned s.ownAddr (s.accusers s.ownAddr))
  let s3 := s2.disarmTimer
  let s4 := { s3 with vu := { s3.vu with hostAccused := 0 }, cm := { s3.cm with service := 0 } }
  s4.startAttempt

/-- A SPLIT outcome for a member: SUSPECT, the count one greater, SPLIT posted (R40). -/
def State.splitEntry (j : Addr) (s : State) : State :=
  let s1 := (s.suspect j .split).modifyEntry j (fun e => { e with splits := satAdd Config.splitsMax e.splits })
  s1.post (.split j (s1.entry j).splits)

/-- The clearing test for a SUSPECT entry after a CLEAR or NONE outcome (R42). -/
def State.clearEntry (j : Addr) (s : State) : State :=
  if (s.entry j).state = .suspect ∧ s.accusers j = 0 ∧ s.evidenceAt j = false then
    (s.modifyEntry j (Entry.moveTo .member)).post (.cleared j)
  else s

/-- The splits count of an entry returns to 0 (R41). -/
def State.endSplits (j : Addr) (s : State) : State :=
  s.modifyEntry j (fun e => { e with splits := 0 })

/-- Step 2 for one address: its outcome is applied and the clearing test made (R37 to R42). -/
def State.applyVerdict (condemn clear : AddrSet) (j : Addr) (s : State) : State :=
  match verdictOf condemn clear j with
  | .condemn =>
    if (s.entry j).state.isMember then
      if j = s.ownAddr then s.condemnOwn else s.condemnPeer j
    else s.endSplits j
  | .split => if (s.entry j).state.isMember then s.splitEntry j else s
  | .none | .clear => (s.endSplits j).clearEntry j

/-- The admission completes at the joiner (R55). -/
def State.completeAdmission (s : State) : State :=
  let s1 := (s.modifyEntry s.ownAddr (Entry.moveTo .member)).armTimer
  let s2 := s1.post (.joinDone s1.ownIncarnation)
  allAddrs.foldl (fun t j => t.testEvidence j) s2

/-- This round's own frame was a JOIN frame and went out whole: the letter of R54. A LEAVE and a JOIN taken after that own slot begin another
membership in the same round, and its count falls by this frame too, where R52 would have it stand (DEDUCED, log entry 22). -/
def LineUnit.joinWentOut (l : LineUnit) : Bool :=
  match l.ownFrame with
  | some f => f.kind == .join && l.ownWhole
  | none => false

/-- Step 3: the admission step of a JOINING own entry (R54; log entry 22 for a JOIN frame of an earlier membership). -/
def State.admissionStep (s : State) : State :=
  if s.own.state = .joining then
    if s.vu.foreignMark then
      (s.moveEntry s.ownAddr (Entry.moveTo .absent)).post (.joinFailed .profile)
    else if s.lu.joinWentOut then
      let left := s.own.admission.getD 0
      if left ≤ 1 then s.completeAdmission
      else s.modifyEntry s.ownAddr (fun e => { e with admission := some (left - 1) })
    else s
  else s

/-- The View Unit's round-end work in the order of R36, with the sampled field and the report of resynchronisation. -/
def State.roundEndWork (resynced : Bool) (s : State) : State :=
  let s1 := if resynced then s else allAddrs.foldl (fun t j => t.accountMiss j) s
  let s2 := allAddrs.foldl (fun t j => t.applyVerdict s.lu.condemnField s.lu.clearField j) s1
  s2.admissionStep

end Sys2Proof.Machine
end

