-- ==== Sys2Proof/Machine/Line.lean ====
section
/-! DEFINITION. The Line Unit's shared work: beginning a round and entering SYNCED, closing a slot, the own slot, the verdict field,
the round end with its resynchronisation check, and leaving the rounds by a stuck line or a collision. -/

namespace Sys2Proof.Machine

/-! ### Orders between blocks that the spec leaves open (log entry 6) -/

/-- A requested release would be carried out now (R119). -/
def State.releaseDue (s : State) : Bool := s.ru.state == .held && s.ru.releaseRequested

/-- The recovery window would end at a round beginning now (R113). -/
def State.windowDue (s : State) : Bool := s.ru.state == .waiting && decide (s.ru.recovery ≤ 1)

/-- A line event that ends the rounds is posted, and a requested release is carried out at that moment (R86, R85, R119). -/
def State.postLeaving (e : Event) (s : State) : State :=
  if s.releaseDue && Config.releaseBeforeLinePost then s.releaseIfRequested.post e
  else (s.post e).releaseIfRequested

/-! ### A round begins (R75, R78, R79, R88) -/

/-- The condition of R79 for ACTIVE: the own entry is not ABSENT, a LEAVE frame is pending, or the Reset Unit is HELD. -/
def State.announces (s : State) : Bool :=
  s.own.state != .absent || s.vu.leavePending || s.ru.state == .held

/-- The Line Unit at a round beginning (R75): timer, number, counts and attachment state. `fresh` says that the station enters SYNCED
from LISTENING with this mark (R78, R89). The sampled field is emptied (DEDUCED, log entry 11), the drive set is kept until the next verdict
field (DESIGN CHOICE, log entry 21), and a collision that still waits for the line is dropped (DESIGN CHOICE, log entry 23). -/
def State.startRound (driving : Driving) (fresh : Bool) (s : State) : State :=
  { s with lu := { s.lu with
      state := if s.announces then .active else .synced
      att := s.announces
      driving := driving
      roundTimer := some s.roundPeriodMs
      listenWindow := none
      waitRelease := false
      roundNumber := if s.lu.numberSet then s.lu.roundNumber + 1 else 0
      numberSet := true
      adoptOpen := fresh
      pos := .slots 0
      outcomes := []
      inStep := 0
      outOfStep := 0
      ownFrame := none
      ownWhole := false
      collisionPending := false
      condemnField := 0
      clearField := 0 } }

/-- A round begins at a station in SYNCED or ACTIVE: the Line Unit, then the View Unit and the Reset Unit as its report reaches
them (R75, R5, R31, R30, R113). -/
def State.beginRound (driving : Driving) (s : State) : State :=
  ((s.startRound driving false).formVoters).countRecoveryRound

/-- A searching station enters SYNCED with a mark that begins its first round, and LINE_SYNCED is posted (R78). -/
def State.enterSynced (driving : Driving) (way : WayOfEntry) (s : State) : State :=
  let s1 := (s.startRound driving true).formVoters
  if s1.windowDue && Config.recoveryBeforeLineSynced then s1.countRecoveryRound.post (.lineSynced way)
  else (s1.post (.lineSynced way)).countRecoveryRound

/-- The station is LISTENING and searching for rounds (R77, R87). -/
def State.searching (s : State) : Bool := s.lu.state == .listening && !s.lu.waitRelease

/-- The station is LISTENING and waiting for release (R87). -/
def State.waitingRelease (s : State) : Bool := s.lu.state == .listening && s.lu.waitRelease

/-- A dominant reading while waiting for release restarts the measurement (R87). -/
def State.restartMeasurement (s : State) : State :=
  if s.waitingRelease then { s with lu := { s.lu with recessiveTime := 0 } } else s

/-- A dominant run that would be a mark: taken in the rest and during the search, part of the slot or of the position it falls in
inside the fixed part, a dominant reading while waiting for release, and not read otherwise (R73, R76, R78, R87). -/
def State.takeMark (s : State) : State :=
  if s.online then
    if s.lu.pos = .rest then s.beginRound .nothing else s
  else if s.searching then s.enterSynced .nothing .markObserved
  else s.restartMeasurement

/-- The round timer runs out in the rest: the station drives a mark, which begins its round by read-back (R72, R74). -/
def State.expireRoundTimer (s : State) : State :=
  if s.online ∧ s.lu.pos = .rest then s.beginRound .mark else s

/-- The listen window runs out while searching: the station drives a mark and enters SYNCED with it (R78). -/
def State.expireListenWindow (s : State) : State :=
  if s.searching then s.enterSynced .mark .ownMark else s

/-! ### Slots (R80 to R83, R89) -/

/-- The slot of an address other than the own may close now: rounds pass, no slot at or after it is over, and the own slot is not
passed over (R71, R81). -/
def State.slotReady (s : State) (k : Addr) : Bool :=
  s.online && k != s.ownAddr &&
    match s.lu.pos with
    | .slots n => decide (n ≤ k.val) && (decide (s.ownAddr.val < n) || decide (k.val < s.ownAddr.val))
    | .outside | .ownSlot | .verdict | .rest => false

/-- A slot's outcome is kept for the round (R75, R82). -/
def LineUnit.keepOutcome (k : Addr) (o : SlotOutcome) (l : LineUnit) : LineUnit :=
  { l with outcomes := l.outcomes ++ [(k, o)] }

/-- The first frame of the own profile in the first round after attaching gives the own round number (R89). -/
def LineUnit.adoptRound (n : Word16) (l : LineUnit) : LineUnit :=
  if l.adoptOpen then { l with roundNumber := n, adoptOpen := false } else l

/-- A frame that passes every test for GARBLED: FOREIGN, OUT_OF_STEP or FRAME, counted and handed to the View Unit (R81, R82, R89). -/
def State.takeFrame (kind : FrameKind) (k : Addr) (f : FrameBody) (s : State) : State :=
  if s.hp.digest ≠ some f.digest then
    { s with lu := s.lu.keepOutcome k .foreign }.applyForeign k f.digest
  else
    let l := s.lu.adoptRound f.round
    if f.round ≠ l.roundNumber then
      { s with lu := { l.keepOutcome k (.outOfStep f.round) with outOfStep := l.outOfStep + 1 } }.applyOutOfStep k
    else
      { s with lu := { l.keepOutcome k (.frame f.round) with inStep := l.inStep + 1 } }.applyFrame kind k f

/-- A slot other than the own closes with what was received in it (R81, R82, R83). A mark that the station drove has ended by then
(R74). -/
def State.closeSlot (k : Addr) (r : Reception) (s : State) : State :=
  if s.slotReady k then
    let s1 := { s with lu := { s.lu with pos := .slots (k.val + 1), driving := .nothing } }
    match r with
    | .silent => { s1 with lu := s1.lu.keepOutcome k .silent }
    | .garbled =>
      { s1 with lu := { s1.lu.keepOutcome k .garbled with
          garbledTotal := satAdd Config.garbledMax s1.lu.garbledTotal } }
    | .frame kind body => s1.takeFrame kind k body
  else s

/-! ### The own slot (R80, R84) -/

/-- The own slot may start now: rounds pass and no slot at or after it is over (R71, R80). -/
def State.ownSlotReady (s : State) : Bool :=
  s.online &&
    match s.lu.pos with
    | .slots n => decide (n ≤ s.ownAddr.val)
    | .outside | .ownSlot | .verdict | .rest => false

/-- The start of the own slot: the View Unit composes the own frame, and in ACTIVE the Line Unit begins to send it (R80). -/
def State.startOwnSlot (s : State) : State :=
  if s.ownSlotReady then
    let s1 := s.composeOwn
    { s1 with lu := { s1.lu with
        pos := .ownSlot
        ownFrame := some { kind := s1.ownKind, body := s1.ownBody }
        driving := if s1.lu.state = .active then .frame else .nothing } }
  else s

/-- The own frame went out whole: the report reaches the own entry's last heard round and the pending LEAVE frame (R2, R63, R80). -/
def State.reportWhole (s : State) : State :=
  match s.lu.ownFrame with
  | none => s
  | some fr =>
    let s1 := { s with lu := { s.lu with ownWhole := true } }
    let s2 := s1.modifyEntry s1.ownAddr (fun e => { e with lastHeard := some fr.body.round })
    if fr.kind = .leave then { s2 with vu := { s2.vu with leavePending := false } } else s2

/-- The end of the own slot: a frame sent to its end bit went out whole, and one that met a dominant level waits for the line
(R80, R84). The round goes on while it waits (DESIGN CHOICE, log entry 23). -/
def State.endOwnSlot (clean : Bool) (s : State) : State :=
  if s.online ∧ s.lu.pos = .ownSlot then
    let s1 := { s with lu := { s.lu with pos := .slots (s.ownAddr.val + 1), driving := .nothing } }
    if s.lu.driving = .frame then
      if clean then s1.reportWhole else { s1 with lu := { s1.lu with collisionPending := true } }
    else s1
  else s

/-! ### The verdict field and the round end (R90 to R92) -/

/-- The own slot is over, the slots after it that have not closed are over and SILENT (log entry 4), and the verdict field may
start (R71). -/
def State.fieldReady (s : State) : Bool :=
  s.online &&
    match s.lu.pos with
    | .slots n => decide (s.ownAddr.val < n)
    | .outside | .ownSlot | .verdict | .rest => false

/-- The start of the verdict field: the Line Unit takes the drive set from the View Unit and drives exactly it (R33, R34, R91). -/
def State.startField (s : State) : State :=
  if s.fieldReady then
    { s with lu := { s.lu with
        pos := .verdict
        condemnDrive := s.condemnSet
        clearDrive := s.clearSet
        driving := if s.condemnSet = 0 ∧ s.clearSet = 0 then .nothing else .verdict } }
  else s

/-- The round number that a slot outcome adds to the resynchronisation check (R90). -/
def SlotOutcome.carried (o : SlotOutcome) : Option Word16 :=
  match o with
  | .frame n | .outOfStep n => some n
  | .silent | .garbled | .foreign => none

/-- The round numbers carried by the frames that the check counts: the FRAME and OUT_OF_STEP outcomes, and the own frame when it went
out whole (R90). -/
def LineUnit.carriedNumbers (l : LineUnit) : List Word16 :=
  l.outcomes.filterMap (fun p => p.2.carried) ++
    match l.ownFrame with
    | some fr => if l.ownWhole then [fr.body.round] else []
    | none => []

/-- A number takes the round over: more than half of the frames counted carry it, or exactly half with the other half carrying the
own number, which is smaller (R90). -/
def LineUnit.outweighs (l : LineUnit) (x : Word16) : Bool :=
  let carried := l.carriedNumbers
  x != l.roundNumber &&
    (decide (carried.length < 2 * carried.count x) ||
      (2 * carried.count x == carried.length && carried.count l.roundNumber == carried.count x &&
        decide (l.roundNumber.toNat < x.toNat)))

/-- The resynchronisation check: the number the station adopts, if the round is resynchronised (R90). -/
def LineUnit.resyncNumber (l : LineUnit) : Option Word16 :=
  if l.outcomes.any (fun p => match p.2 with
      | .outOfStep _ => true
      | .silent | .garbled | .foreign | .frame _ => false) then
    l.carriedNumbers.find? l.outweighs
  else none

/-- The resynchronisation check is carried out: in a resynchronised round the number changes and ROUND_RESYNC is posted with the new
value as its round number (R90). -/
def State.resync (s : State) : State :=
  match s.lu.resyncNumber with
  | some x =>
    { s with lu := { s.lu with roundNumber := x } }.post (.roundResync s.lu.roundNumber x)
  | none => s

/-- The sampled field: a position reads dominant when any station drives it, this one or another (R69, R91). -/
def State.sampleField (condemn clear : AddrSet) (s : State) : State :=
  { s with lu := { s.lu with
      condemnField := s.lu.condemnDrive ||| condemn, clearField := s.lu.clearDrive ||| clear } }

/-- The round end: the resynchronisation check, then the View Unit's work (R90, R92, R36), and a requested release of the host, which no rule
orders against either: before the check, between the two, or after both (R119; free values, log entry 6). -/
def State.endRound (condemn clear : AddrSet) (s : State) : State :=
  if s.online ∧ s.lu.pos = .verdict then
    let s1 := { s with lu := { s.lu with pos := .rest, driving := .nothing } }.sampleField condemn clear
    let resynced := s1.lu.resyncNumber.isSome
    let s2 := if s1.releaseDue && Config.releaseBeforeResync then s1.releaseIfRequested.resync else s1.resync
    if s2.releaseDue && Config.releaseBeforeRoundEndWork then s2.releaseIfRequested.roundEndWork resynced
    else (s2.roundEndWork resynced).releaseIfRequested
  else s

/-! ### Leaving the rounds (R84 to R87) -/

/-- The station stops driving and leaves SYNCED or ACTIVE: the round is abandoned, the round timer stopped, ATT released, and the mark
of a joining round cleared (R32, R54, R72, R76, R86). Nothing is driven any more; the drive set itself is kept (DESIGN CHOICE, log entry 21),
and the in-step and out-of-step counts, the slot outcomes and the own frame stand as they were until the next round beginning (DESIGN CHOICE, log entry
24). -/
def State.leaveRounds (st : LineState) (s : State) : State :=
  { s with
    lu := { s.lu with
      state := st, att := false, driving := .nothing, roundTimer := none, listenWindow := none, adoptOpen := false,
      pos := .outside, collisionPending := false }
    vu := { s.vu with foreignMark := false } }

/-- A dominant run reaches 1 ms: LISTENING, waiting for release, LINE_STUCK (R86); a station already waiting restarts its measurement
(R87), and one that reads no line does nothing. -/
def State.stickLine (s : State) : State :=
  if s.online then
    let s1 := s.leaveRounds .listening
    { s1 with lu := { s1.lu with waitRelease := true, recessiveTime := 0 } }.postLeaving .lineStuck
  else s.restartMeasurement

/-- The View Unit's part as the station enters BLOCKED (R85, R60). -/
def State.withdrawBlocked (s : State) : State :=
  let joining := s.own.state = .joining
  let s1 := s.moveEntry s.ownAddr (Entry.moveTo .absent)
  let s2 := if joining then s1.post (.joinFailed .duplicateAddress) else s1
  let s3 := s2.disarmTimer
  { s3 with vu := { s3.vu with hostAccused := 0, leavePending := false } }

/-- A collision is taken: the View Unit is told, the station enters BLOCKED, DUPLICATE_ADDRESS is posted (R84, R85). -/
def State.takeCollision (s : State) : State :=
  if s.lu.state = .active ∧ (s.lu.driving = .frame ∨ s.lu.collisionPending = true) then
    (s.withdrawBlocked.leaveRounds .blocked).postLeaving .duplicateAddress
  else s

/-- The line has read recessive for one round period: LINE_RELEASED, and the search begins (R87, R77). -/
def State.releaseLine (s : State) : State :=
  if s.waitingRelease then
    let s1 := s.post .lineReleased
    { s1 with lu := { s1.lu with
        waitRelease := false, recessiveTime := 0, listenWindow := some (2 * s1.roundPeriodMs) } }
  else s

end Sys2Proof.Machine
end

