-- ==== Sys2Proof/Machine/LineCommands.lean ====
section
/-! DEFINITION. The meanings of the events of the peer line, one definition for each row of the table. An event that reaches the
station where the spec says the station does not look for it changes nothing (log entry 3). -/

namespace Sys2Proof.Machine

/-- ROUND_MARK (R73, R75, R78). -/
def execRoundMark (s : State) : Host.Outcome State Fault Refusal := .next s.takeMark

/-- ROUND_TIMER_EXPIRY (R72, R74, R75). -/
def execRoundTimerExpiry (s : State) : Host.Outcome State Fault Refusal := .next s.expireRoundTimer

/-- LISTEN_WINDOW_EXPIRY (R74, R75, R78). -/
def execListenWindowExpiry (s : State) : Host.Outcome State Fault Refusal := .next s.expireListenWindow

/-- OWN_SLOT_START (R2, R26, R29, R30, R51, R80). -/
def execOwnSlotStart (s : State) : Host.Outcome State Fault Refusal := .next s.startOwnSlot

/-- OWN_SLOT_END (R2, R63, R80, R84). -/
def execOwnSlotEnd (clean : Bool) (s : State) : Host.Outcome State Fault Refusal := .next (s.endOwnSlot clean)

/-- SLOT_CLOSE: the slot closes with what was read in it; bytes that pass every test are the frame that they are (R81, R82, R19,
R20). -/
def execSlotClose (slot : Addr) (reading : SlotReading) (s : State) : Host.Outcome State Fault Refusal :=
  .next (s.closeSlot slot (receptionOf slot reading))

/-- ANNOUNCE_FRAME: an ANNOUNCE frame received whole, classified by its digest and round number (R81) and applied (R6). -/
def execAnnounceFrame (slot : Addr) (frame : FrameBody) (s : State) : Host.Outcome State Fault Refusal :=
  .next (s.closeSlot slot (.frame .announce frame))

/-- JOIN_FRAME: a JOIN frame received whole, classified (R81) and applied (R56, R58, R8, R9). -/
def execJoinFrame (slot : Addr) (frame : FrameBody) (s : State) : Host.Outcome State Fault Refusal :=
  .next (s.closeSlot slot (.frame .join frame))

/-- LEAVE_FRAME: a LEAVE frame received whole, classified (R81) and applied (R64, R8). -/
def execLeaveFrame (slot : Addr) (frame : FrameBody) (s : State) : Host.Outcome State Fault Refusal :=
  .next (s.closeSlot slot (.frame .leave frame))

/-- VERDICT_FIELD_START (R33, R34, R91). -/
def execVerdictFieldStart (s : State) : Host.Outcome State Fault Refusal := .next s.startField

/-- ROUND_END (R36, R90, R92, R119). -/
def execRoundEnd (condemn clear : AddrSet) (s : State) : Host.Outcome State Fault Refusal :=
  .next (s.endRound condemn clear)

/-- COLLISION (R84, R85, R60). -/
def execCollision (s : State) : Host.Outcome State Fault Refusal := .next s.takeCollision

/-- LINE_STUCK (R86). -/
def execLineStuck (s : State) : Host.Outcome State Fault Refusal := .next s.stickLine

/-- LINE_RELEASED (R87). -/
def execLineReleased (s : State) : Host.Outcome State Fault Refusal := .next s.releaseLine

/-- RELEASE_MEASUREMENT_RESTART (R87). -/
def execReleaseMeasurementRestart (s : State) : Host.Outcome State Fault Refusal := .next s.restartMeasurement

end Sys2Proof.Machine
end

