-- ==== Sys2Proof/Machine/LocalCommands.lean ====
section
/-! DEFINITION. The meanings of the events of the Prompt Timer, the Reset Unit and the Condition Monitor, one definition for each row
of the table. An event of a count or of a pin carries the time it takes: the count stands at the event's value afterwards
(log entry 5). -/

namespace Sys2Proof.Machine

/-- PROMPT_WARNING (R98). -/
def execPromptWarning (s : State) : Host.Outcome State Fault Refusal := .next s.warnTimer

/-- PROMPT_LAPSED (R99). -/
def execPromptLapsed (s : State) : Host.Outcome State Fault Refusal := .next s.lapseTimer

/-- PULSE_END (R112). -/
def execPulseEnd (s : State) : Host.Outcome State Fault Refusal := .next s.endPulse

/-- PULSE_CONFIRMED: in PULSING the confirmation flag is set; the assertion began in no IDLE state (R111, R120). -/
def execPulseConfirmed (s : State) : Host.Outcome State Fault Refusal :=
  .next (if s.ru.state = .pulsing then { s with ru := { s.ru with confirmed := true, rstLatched := true } } else s)

/-- EXTERNAL_HOST_RESET: an assertion that began in IDLE and was not taken before is an external host reset: HOST_RESET_SEEN, and a
JOINING, MEMBER or SUSPECT own entry departs (R120, R66). -/
def execExternalHostReset (begunInIdle : Bool) (s : State) : Host.Outcome State Fault Refusal :=
  .next
    (if s.ru.state = .idle then
      let s1 := { s with ru := { s.ru with rstLatched := true } }
      if begunInIdle && !s.ru.rstLatched then
        let s2 := s1.post .hostResetSeen
        match s2.own.state with
        | .joining | .member | .suspect => s2.depart
        | .absent | .recovering => s2
      else s1
    else s)

/-- RSTSENSE_RELEASE: the assertion in progress ends (R120). -/
def execRstsenseRelease (s : State) : Host.Outcome State Fault Refusal :=
  .next { s with ru := { s.ru with rstLatched := false } }

/-- MCLR_ASSERTION: taken once; in HELD, when it began there, it requests the release while rounds pass and carries it out at once
otherwise (R118, R119). -/
def execMclrAssertion (begunInHeld : Bool) (s : State) : Host.Outcome State Fault Refusal :=
  .next
    (if s.ru.mclrReady then
      let s1 := { s with ru := { s.ru with mclrReady := false } }
      if begunInHeld && s1.ru.state == .held then
        if s1.online then { s1 with ru := { s1.ru with releaseRequested := true } } else s1.releaseHost
      else s1
    else s)

/-- MCLR_RELEASE: a following assertion may be taken (R118). -/
def execMclrRelease (s : State) : Host.Outcome State Fault Refusal :=
  .next { s with ru := { s.ru with mclrReady := true } }

/-- RECOVERY_WINDOW_END: the round beginning that brings the recovery rounds remaining to 0; with more than one left it is none, and
while no rounds pass there is none (R113, R114, R115; log entry 7). -/
def execRecoveryWindowEnd (s : State) : Host.Outcome State Fault Refusal :=
  .next (if s.online && s.windowDue then s.endWindow else s)

/-- INPUT_CHANGE: the filtered level of the input changes, and INPUT_CHANGE is posted once the station is configured (R125, R127).
A level that is the filtered one already is no change. -/
def execInputChange (input : Fin 4) (level : Bool) (s : State) : Host.Outcome State Fault Refusal :=
  .next
    (if s.cm.levels.getLsbD input.val = level then s
    else
      let s1 := { s with cm := { s.cm with levels := s.cm.levels ^^^ BitVec.twoPow 4 input.val } }
      if s1.configured then s1.post (.inputChange s1.condFlags) else s1)

end Sys2Proof.Machine
end

