-- ==== Sys2Proof/Machine/Records.lean ====
section
/-! DEFINITION. The records that the host reads whole: the status record and the snapshot entry record (R149, R172). -/

namespace Sys2Proof.Machine

/-- The snapshot state bit: 0 FREE, 1 LOADED (R172). -/
def State.snapshotLoaded (s : State) : Bool := s.hp.snapshot.isSome

/-- The nineteen bytes of the status record, every item as it stands at this moment (R149, R172). -/
def State.statusRecord (s : State) : List Byte :=
  [((bitOf s.configured ++ s.lu.state.code) ++ nibbleOf s.ownAddr : BitVec 8),
   ((s.own.state.code ++ s.pt.state.code) ++ (s.ru.state.code ++ bitOf s.snapshotLoaded) : BitVec 8),
   s.ownIncarnation,
   highByte s.lu.roundNumber, lowByte s.lu.roundNumber,
   byteOf s.vu.voterCount,
   byteOf s.vu.quorum,
   highByte (BitVec.ofNat 16 s.pt.remaining), lowByte (BitVec.ofNat 16 s.pt.remaining),
   s.pt.expected,
   (nibbleOf s.hp.cursor ++ (0#1 ++ BitVec.ofNat 3 s.ru.attempt) : BitVec 8),
   byteOf s.ru.recovery,
   (0#4 ++ s.condFlags : BitVec 8),
   highByte s.cm.service, lowByte s.cm.service,
   byteOf s.hp.queue.length,
   byteOf s.hp.lost,
   highByte (BitVec.ofNat 16 s.lu.garbledTotal), lowByte (BitVec.ofNat 16 s.lu.garbledTotal)]

/-- The fifteen bytes of the snapshot entry record for an address of the copy; the bytes of an absent field are 0 (R165, R172). -/
def Snapshot.entryRecord (c : Snapshot) (a : Addr) : List Byte :=
  let e := c.table[a]
  [((0#1 ++ e.state.code) ++ nibbleOf a : BitVec 8),
   highByte c.round, lowByte c.round,
   byteOf c.voterCount,
   byteOf c.quorum,
   ((0#2 ++ (bitOf e.strangerReported ++ bitOf e.mismatchSeen)) ++
     ((bitOf e.viewAgrees ++ bitOf e.admission.isSome) ++ (bitOf e.lastHeard.isSome ++ bitOf e.incarnation.isSome)) : BitVec 8),
   e.incarnation.getD 0,
   highByte (e.lastHeard.getD 0), lowByte (e.lastHeard.getD 0),
   ((0#1 ++ e.hostState.code) ++ (0#1 ++ e.attempt) : BitVec 8),
   (BitVec.ofNat 4 (e.admission.getD 0) ++ (0#1 ++ BitVec.ofNat 3 e.missCount) : BitVec 8),
   (0#4 ++ e.flags : BitVec 8),
   highByte e.service, lowByte e.service,
   byteOf e.splits]

end Sys2Proof.Machine
end

