-- ==== Sys2Proof/Machine/Port.lean ====
section
/-! DEFINITION. The Host Port's shared work: the phases of a transaction, taking a command, and what each of the thirteen host commands
does and answers once its frame has passed the checks of R139. -/

namespace Sys2Proof.Machine

/-! ### The transaction (R137 to R141) -/

/-- The answer of a taken command: the Host Port is in TURNAROUND with the response frame ready, and the advance that waits for its
delivery, if any (R138, R140, R141). -/
def State.answerWith (st : Status) (data : List Byte) (adv : Option Advance) (s : State) : State :=
  { s with hp := { s.hp with phase := .turnaround, response := some { status := st, data := data }, advance := adv } }

/-- An answer that no advance waits for. -/
def State.answer (st : Status) (data : List Byte) (s : State) : State := s.answerWith st data none

/-- A command frame completes: it is taken in COMMAND alone (R137, R138). -/
def State.takeIn (f : State → State) (s : State) : State :=
  if s.hp.phase = .command then f s else s

/-- Step 3 of R139: before configuration the command is answered NOT_CONFIGURED and not executed (R143). -/
def State.ifConfigured (f : State → State) (s : State) : State :=
  if s.configured then f s else s.answer .notConfigured []

/-- A bitmap as the two data bytes of a response (R170). -/
def setBytes (a : AddrSet) : List Byte := [highByte a, lowByte a]

/-! ### CONFIGURE and RESTART (R145, R146, R151, R152) -/

/-- CONFIGURE, taken: the state test, the values test, and the acceptance of R146. -/
def State.configureBody (r : ConfigRecord) (s : State) : State :=
  if s.configured then s.answer .refusedState []
  else if !recordInRange r then s.answer .refusedValue []
  else
    let d := profileDigest r
    let s1 := { s with
      hp := { s.hp with config := some r, digest := some d }
      lu := { s.lu with
        state := .listening, waitRelease := false, listenWindow := some (2 * (10 * r.roundPeriod.toNat)) } }
    s1.answer .ok (setBytes d)

/-- Every block at its power-on values but for the own incarnation, the own address, the filtered levels and the RSTSENSE assertion
in progress; the transaction goes on (R152, R122, R125). -/
def State.restarted (s : State) : State :=
  { s with
    lu := LineUnit.reset
    vu := ViewUnit.reset s.ownAddr s.ownIncarnation
    pt := PromptTimer.reset
    ru := ResetUnit.reset s.ru.rstLatched
    cm := ConditionMonitor.reset s.cm.levels
    hp := { HostPort.reset s.ownAddr with
      phase := s.hp.phase, response := s.hp.response, advance := s.hp.advance } }

/-- RESTART, taken: accepted while the own entry is ABSENT and the Reset Unit IDLE (R151). -/
def State.restartBody (s : State) : State :=
  if s.own.state = .absent ∧ s.ru.state = .idle then s.restarted.answer .ok [] else s.answer .refusedState []

/-! ### Membership (R49, R50, R61, R62) -/

/-- The condition on which JOIN is accepted (R49). -/
def State.mayJoin (s : State) : Bool :=
  s.online && (s.own.state == .absent || s.own.state == .recovering) &&
    (s.ru.state == .idle || s.ru.state == .waiting)

/-- JOIN, taken (R49, R50, R54). -/
def State.joinBody (s : State) : State :=
  if s.mayJoin then
    let inc := s.ownIncarnation + 1
    let s1 := s.modifyEntry s.ownAddr (fun e =>
      { e.startJoining s.admitRounds with incarnation := some inc })
    let s2 := { s1 with vu := { s1.vu with foreignMark := false } }
    s2.rejoin.answer .ok [inc]
  else s.answer .refusedState []

/-- LEAVE, taken (R61, R62). -/
def State.leaveBody (s : State) : State :=
  match s.own.state with
  | .joining | .member | .suspect => s.depart.answer .ok []
  | .absent | .recovering => s.answer .refusedState []

/-! ### Accusation (R45, R46) -/

/-- ACCUSE, taken (R45). -/
def State.accuseBody (a : Byte) (s : State) : State :=
  match addrOfByte a with
  | none => s.answer .refusedValue []
  | some j =>
    if j = s.ownAddr then s.answer .refusedValue []
    else if s.own.state.isMember && (s.entry j).state.isMember then
      let s1 := { s with vu := { s.vu with hostAccused := insertAddr j s.vu.hostAccused } }
      let s2 := if inSet j s.vu.hostAccused then s1 else s1.testEvidence j
      s2.answer .ok (setBytes s2.vu.hostAccused)
    else s.answer .refusedState []

/-- PARDON, taken (R46). -/
def State.pardonBody (a : Byte) (s : State) : State :=
  match addrOfByte a with
  | none => s.answer .refusedValue []
  | some j =>
    let s1 := s.dropAccusation j
    s1.answer .ok (setBytes s1.vu.hostAccused)

/-! ### PROMPT and PUBLISH (R101, R132) -/

/-- PROMPT, taken (R101). -/
def State.promptBody (n : Byte) (s : State) : State :=
  match s.pt.state with
  | .disarmed => s.answer .refusedState []
  | .lapsed => s.answer .late [s.pt.expected]
  | .running | .warned =>
    if n = s.pt.expected then
      { s with pt := { state := .running, remaining := s.promptPeriod, expected := n + 1, warn := false } }.answer .ok
        [n + 1]
    else s.answer .refusedSeq [s.pt.expected]

/-- PUBLISH, taken (R132). -/
def State.publishBody (w : Word16) (s : State) : State :=
  { s with cm := { s.cm with service := w } }.answer .ok []

/-! ### Events and the snapshot (R161, R164 to R166) -/

/-- READ_EVENT, taken: the head record, removed on whole delivery, or EMPTY (R161). -/
def State.readEventBody (s : State) : State :=
  match s.hp.queue with
  | [] => s.answer .empty []
  | r :: _ => s.answerWith .ok r.bytes (some .event)

/-- SNAPSHOT, taken: the copy into a FREE buffer, or PENDING (R164). -/
def State.snapshotBody (s : State) : State :=
  match s.hp.snapshot with
  | some _ => s.answer .pending []
  | none =>
    { s with hp := { s.hp with
        snapshot := some
          { table := s.vu.table, round := s.lu.roundNumber, voterCount := s.vu.voterCount, quorum := s.vu.quorum }
        cursor := 0 } }.answer .ok [highByte s.lu.roundNumber, lowByte s.lu.roundNumber]

/-- READ_ENTRY, taken: the entry at the read cursor, the cursor advancing on whole delivery, or EMPTY (R165). -/
def State.readEntryBody (s : State) : State :=
  match s.hp.snapshot with
  | none => s.answer .empty []
  | some c => s.answerWith .ok (c.entryRecord s.hp.cursor) (some .entry)

/-- DISCARD_SNAPSHOT, taken (R166). -/
def State.discardBody (s : State) : State :=
  { s with hp := { s.hp with snapshot := none, cursor := 0 } }.answer .ok []

/-- STATUS, taken: answered OK in every state, and changes nothing (R149, R150). -/
def State.statusBody (s : State) : State := s.answer .ok s.statusRecord

/-- A frame that passed the checks of steps 1 and 2 of R139 is handed to its owner. -/
def State.runHostCommand (c : HostCommand) (s : State) : State :=
  match c with
  | .status => s.statusBody
  | .configure r => s.configureBody r
  | .restart => s.restartBody
  | .join => s.ifConfigured State.joinBody
  | .leave => s.ifConfigured State.leaveBody
  | .accuse a => s.ifConfigured (State.accuseBody a)
  | .pardon a => s.ifConfigured (State.pardonBody a)
  | .prompt n => s.ifConfigured (State.promptBody n)
  | .publish w => s.ifConfigured (State.publishBody w)
  | .snapshot => s.ifConfigured State.snapshotBody
  | .readEntry => s.ifConfigured State.readEntryBody
  | .discardSnapshot => s.ifConfigured State.discardBody
  | .readEvent => s.ifConfigured State.readEventBody

/-- The bytes received in COMMAND: a frame that fails a check is answered and has no effect, one that passes is that command, and
bytes that complete no frame are not taken (R138, R139). -/
def State.takeFrameBytes (bs : List Byte) (s : State) : State :=
  match checkFrame bs with
  | .incomplete => s
  | .badCheck => s.answer .badCheck []
  | .badCommand => s.answer .badCommand []
  | .good c => s.runHostCommand c

/-- The levels sampled on SDI in COMMAND, from the assertion of NCS on: whole bytes, most significant bit first (R136). -/
def State.takeFrameBits (sdi : List Bool) (s : State) : State := s.takeFrameBytes (bytesOfBits sdi)

/-! ### What SDO carries (R136, R137) -/

/-- What the SDO line carries. -/
inductive SdoLine where
  | highImpedance
  /-- bytes with every bit set -/
  | filler
  /-- the bytes of the response frame -/
  | frame (bytes : List Byte)
deriving DecidableEq, Repr

/-- Byte n of what SDO carries in a phase, counted from 0: none at high impedance, and filler once a frame is over (R137). -/
def SdoLine.byteAt (l : SdoLine) (n : Nat) : Option Byte :=
  match l with
  | .highImpedance => none
  | .filler => some fillerByte
  | .frame bytes => some (bytes.getD n fillerByte)

/-- The level that SDO presents for clock k of a phase, counted from 0: every byte most significant bit first (R136). -/
def SdoLine.level (l : SdoLine) (k : Nat) : Option Bool :=
  (l.byteAt (k / 8)).map (fun b => b.getLsbD (7 - k % 8))

/-- SDO by the phase of the transaction (R137). -/
def State.sdo (s : State) : SdoLine :=
  match s.hp.phase with
  | .deselected => .highImpedance
  | .command | .turnaround | .trailer => .filler
  | .response =>
    match s.hp.response with
    | some r => .frame r.bytes
    | none => .filler

/-- The level of the SDO pin for clock k of the present phase, none at high impedance (R136, R137). -/
def State.sdoLevel (s : State) (k : Nat) : Option Bool := s.sdo.level k

/-! ### Delivery (R137, R141) -/

/-- The last byte of a response is clocked out: TRAILER, and the advance that waited is carried out (R141, R161, R165). -/
def State.deliver (s : State) : State :=
  if s.hp.phase = .response then
    let h :=
      match s.hp.advance with
      | none => s.hp
      | some .event => s.hp.removeHead
      | some .entry => s.hp.advanceCursor
    { s with hp := { h with phase := .trailer, response := none, advance := none } }
  else s

/-- NCS is released: DESELECTED from any phase; a frame not complete, a response not delivered and its advance are dropped (R141). -/
def State.deselect (s : State) : State :=
  { s with hp := { s.hp with phase := .deselected, response := none, advance := none } }

end Sys2Proof.Machine
end

