-- ==== Sys2Proof/Machine/PortCommands.lean ====
section
/-! DEFINITION. The meanings of power-on and of the operations of the host port, one definition for each row of the table. -/

namespace Sys2Proof.Machine

/-- POWER_ON: every block takes its power-on values, the own address from the straps and the filtered levels from the pins; the
commands that wait and the model's own count stay (R154, R21, R94, R95, R107, R125, R152). -/
def execPowerOn (straps levels : BitVec 4) (rstsense : Bool) (s : State) : Host.Outcome State Fault Refusal :=
  .next { State.powerOn (addrOfStraps straps) levels rstsense with pending := s.pending, ticks := s.ticks }

/-- NCS_ASSERT: a transaction begins in COMMAND (R136, R137). -/
def execNcsAssert (s : State) : Host.Outcome State Fault Refusal :=
  .next (if s.hp.phase = .deselected then { s with hp := { s.hp with phase := .command } } else s)

/-- NCS_RELEASE: DESELECTED from any phase (R137, R141). -/
def execNcsRelease (s : State) : Host.Outcome State Fault Refusal := .next s.deselect

/-- BAD_COMMAND_FRAME: the frame that the levels on SDI make is answered BAD_CHECK or BAD_COMMAND with no effect (R139); levels that complete
no frame have none either, and the bits of an incomplete byte are discarded (R136, R138). -/
def execBadCommandFrame (sdi : List Bool) (s : State) : Host.Outcome State Fault Refusal :=
  .next (s.takeIn (State.takeFrameBits sdi))

/-- RESPONSE_DELIVERED: TRAILER, and the pending advance (R137, R141). -/
def execResponseDelivered (s : State) : Host.Outcome State Fault Refusal := .next s.deliver

/-- TURNAROUND_END: RESPONSE (R137). -/
def execTurnaroundEnd (s : State) : Host.Outcome State Fault Refusal :=
  .next (if s.hp.phase = .turnaround then { s with hp := { s.hp with phase := .response } } else s)

/-- CONFIGURE (R145, R146). -/
def execConfigure (record : ConfigRecord) (s : State) : Host.Outcome State Fault Refusal :=
  .next (s.takeIn (State.configureBody record))

/-- STATUS (R149, R150). -/
def execStatus (s : State) : Host.Outcome State Fault Refusal := .next (s.takeIn State.statusBody)

/-- RESTART (R151, R152). -/
def execRestart (s : State) : Host.Outcome State Fault Refusal := .next (s.takeIn State.restartBody)

/-- JOIN (R49, R50). -/
def execJoin (s : State) : Host.Outcome State Fault Refusal :=
  .next (s.takeIn (State.ifConfigured State.joinBody))

/-- LEAVE (R61, R62). -/
def execLeave (s : State) : Host.Outcome State Fault Refusal :=
  .next (s.takeIn (State.ifConfigured State.leaveBody))

/-- ACCUSE (R45). -/
def execAccuse (address : Byte) (s : State) : Host.Outcome State Fault Refusal :=
  .next (s.takeIn (State.ifConfigured (State.accuseBody address)))

/-- PARDON (R46). -/
def execPardon (address : Byte) (s : State) : Host.Outcome State Fault Refusal :=
  .next (s.takeIn (State.ifConfigured (State.pardonBody address)))

/-- PROMPT (R101). -/
def execPrompt (sequence : Byte) (s : State) : Host.Outcome State Fault Refusal :=
  .next (s.takeIn (State.ifConfigured (State.promptBody sequence)))

/-- PUBLISH (R132). -/
def execPublish (word : Word16) (s : State) : Host.Outcome State Fault Refusal :=
  .next (s.takeIn (State.ifConfigured (State.publishBody word)))

/-- SNAPSHOT (R164). -/
def execSnapshot (s : State) : Host.Outcome State Fault Refusal :=
  .next (s.takeIn (State.ifConfigured State.snapshotBody))

/-- READ_ENTRY (R165). -/
def execReadEntry (s : State) : Host.Outcome State Fault Refusal :=
  .next (s.takeIn (State.ifConfigured State.readEntryBody))

/-- DISCARD_SNAPSHOT (R166). -/
def execDiscardSnapshot (s : State) : Host.Outcome State Fault Refusal :=
  .next (s.takeIn (State.ifConfigured State.discardBody))

/-- READ_EVENT (R161). -/
def execReadEvent (s : State) : Host.Outcome State Fault Refusal :=
  .next (s.takeIn (State.ifConfigured State.readEventBody))

end Sys2Proof.Machine
end

