-- ==== Sys2Proof/Machine/Dispatch.lean ====
section
/-! DEFINITION. The dispatch of the commands: one arm for each row of spec/opcode_table.json, in the table's order. -/

namespace Sys2Proof.Machine

/-- The effect of a command on everything but the queue of waiting commands. -/
def exec (i : Instr) (s : State) : Host.Outcome State Fault Refusal :=
  match i with
  | .powerOn straps levels rstsense => Sys2Proof.Machine.execPowerOn straps levels rstsense s
  | .ncsAssert => Sys2Proof.Machine.execNcsAssert s
  | .ncsRelease => Sys2Proof.Machine.execNcsRelease s
  | .badCommandFrame sdi => Sys2Proof.Machine.execBadCommandFrame sdi s
  | .responseDelivered => Sys2Proof.Machine.execResponseDelivered s
  | .configure record => Sys2Proof.Machine.execConfigure record s
  | .status => Sys2Proof.Machine.execStatus s
  | .restart => Sys2Proof.Machine.execRestart s
  | .join => Sys2Proof.Machine.execJoin s
  | .leave => Sys2Proof.Machine.execLeave s
  | .accuse address => Sys2Proof.Machine.execAccuse address s
  | .pardon address => Sys2Proof.Machine.execPardon address s
  | .prompt sequence => Sys2Proof.Machine.execPrompt sequence s
  | .publish word => Sys2Proof.Machine.execPublish word s
  | .snapshot => Sys2Proof.Machine.execSnapshot s
  | .readEntry => Sys2Proof.Machine.execReadEntry s
  | .discardSnapshot => Sys2Proof.Machine.execDiscardSnapshot s
  | .readEvent => Sys2Proof.Machine.execReadEvent s
  | .roundMark => Sys2Proof.Machine.execRoundMark s
  | .roundTimerExpiry => Sys2Proof.Machine.execRoundTimerExpiry s
  | .listenWindowExpiry => Sys2Proof.Machine.execListenWindowExpiry s
  | .ownSlotStart => Sys2Proof.Machine.execOwnSlotStart s
  | .ownSlotEnd clean => Sys2Proof.Machine.execOwnSlotEnd clean s
  | .slotClose slot reading => Sys2Proof.Machine.execSlotClose slot reading s
  | .announceFrame slot frame => Sys2Proof.Machine.execAnnounceFrame slot frame s
  | .joinFrame slot frame => Sys2Proof.Machine.execJoinFrame slot frame s
  | .leaveFrame slot frame => Sys2Proof.Machine.execLeaveFrame slot frame s
  | .verdictFieldStart => Sys2Proof.Machine.execVerdictFieldStart s
  | .roundEnd condemn clear => Sys2Proof.Machine.execRoundEnd condemn clear s
  | .collision => Sys2Proof.Machine.execCollision s
  | .lineStuck => Sys2Proof.Machine.execLineStuck s
  | .lineReleased => Sys2Proof.Machine.execLineReleased s
  | .promptWarning => Sys2Proof.Machine.execPromptWarning s
  | .promptLapsed => Sys2Proof.Machine.execPromptLapsed s
  | .pulseEnd => Sys2Proof.Machine.execPulseEnd s
  | .pulseConfirmed => Sys2Proof.Machine.execPulseConfirmed s
  | .externalHostReset begunInIdle => Sys2Proof.Machine.execExternalHostReset begunInIdle s
  | .mclrAssertion begunInHeld => Sys2Proof.Machine.execMclrAssertion begunInHeld s
  | .recoveryWindowEnd => Sys2Proof.Machine.execRecoveryWindowEnd s
  | .inputChange input level => Sys2Proof.Machine.execInputChange input level s
  | .turnaroundEnd => Sys2Proof.Machine.execTurnaroundEnd s
  | .releaseMeasurementRestart => Sys2Proof.Machine.execReleaseMeasurementRestart s
  | .mclrRelease => Sys2Proof.Machine.execMclrRelease s
  | .rstsenseRelease => Sys2Proof.Machine.execRstsenseRelease s

end Sys2Proof.Machine
end

