-- ==== Sys2Proof/Machine/Time.lean ====
section
/-! DEFINITION. One idle millisecond: what step does when no command waits (DESIGN CHOICE, log entry 5). The counts that the spec states
in milliseconds advance, and a count that runs out is taken at once as its own event. -/

namespace Sys2Proof.Machine

/-- The Prompt Timer counts down in RUNNING and WARNED (R98). -/
def PromptTimer.count (p : PromptTimer) : PromptTimer :=
  match p.state with
  | .running | .warned => { p with remaining := p.remaining - 1 }
  | .disarmed | .lapsed => p

/-- The Reset Unit counts the pulse down in PULSING (R111). -/
def ResetUnit.count (r : ResetUnit) : ResetUnit :=
  match r.state with
  | .pulsing => { r with pulse := r.pulse - 1 }
  | .idle | .waiting | .held => r

/-- A mark that the station drives is over 100 µs after its leading edge, so a whole millisecond ends it (R74). The own frame and the
verdict positions end with the events of the round (log entry 18). -/
def Driving.afterMillisecond (d : Driving) : Driving :=
  match d with
  | .mark => .nothing
  | .nothing | .frame | .verdict => d

/-- The Line Unit's timers: the round timer (R72), the listen window (R77), and the recessive time while waiting for release, the line
being recessive (R87); and the end of a mark that it drove (R74). -/
def LineUnit.count (l : LineUnit) : LineUnit :=
  { l with
    driving := l.driving.afterMillisecond
    roundTimer := l.roundTimer.map (fun n => n - 1)
    listenWindow := l.listenWindow.map (fun n => n - 1)
    recessiveTime := if l.state = .listening ∧ l.waitRelease = true then l.recessiveTime + 1 else l.recessiveTime }

/-- Every count one millisecond on. -/
def State.count (s : State) : State :=
  { s with pt := s.pt.count, ru := s.ru.count, lu := s.lu.count, ticks := s.ticks + 1 }

/-- A count of the Prompt Timer or of the pulse has run out (R98, R99, R112). -/
def State.localDue (s : State) : Bool :=
  (s.pt.state == .running && decide (s.pt.remaining ≤ s.warningLead)) ||
    (s.pt.state == .warned && s.pt.remaining == 0) || (s.ru.state == .pulsing && s.ru.pulse == 0)

/-- The counts of the Prompt Timer and of the pulse that have run out are taken. -/
def State.runLocal (s : State) : State :=
  let s1 :=
    if s.pt.state = .running ∧ s.pt.remaining ≤ s.warningLead then s.warnTimer
    else if s.pt.state = .warned ∧ s.pt.remaining = 0 then s.lapseTimer
    else s
  if s1.ru.state = .pulsing ∧ s1.ru.pulse = 0 then s1.endPulse else s1

/-- A timer of the line has run out: the round timer in the rest, the listen window while searching, or the measurement of recessive
time while waiting for release (R74, R78, R87). -/
def State.lineDue (s : State) : Bool :=
  (s.online && s.lu.pos == .rest && s.lu.roundTimer == some 0) || (s.searching && s.lu.listenWindow == some 0) ||
    (s.waitingRelease && decide (s.roundPeriodMs ≤ s.lu.recessiveTime))

/-- The timer of the line that has run out is taken. -/
def State.runLine (s : State) : State :=
  if s.online && s.lu.pos == .rest && s.lu.roundTimer == some 0 then s.expireRoundTimer
  else if s.searching && s.lu.listenWindow == some 0 then s.expireListenWindow
  else if s.waitingRelease && decide (s.roundPeriodMs ≤ s.lu.recessiveTime) then s.releaseLine
  else s

/-- One millisecond in which no command reaches the part (log entry 5). -/
def State.idle (s : State) : State :=
  let s1 := s.count
  if s1.lineDue && s1.localDue && Config.lineTimerFirst s.ticks then s1.runLine.runLocal
  else s1.runLocal.runLine

end Sys2Proof.Machine
end

