-- ==== Sys2Proof/Safety.lean ====
section
/-! DEFINITION. What every state of the part keeps: the promises that the rules make about the whole machine rather than about one
operation. Each is a predicate on one state; Certificates state that a step keeps it. -/

namespace Sys2Proof.Machine

/-- The output pins stand as the states they follow say (R76, R100, R108, R163). -/
structure PinsFollow (s : State) : Prop where
  /-- ATT is asserted while the line state is ACTIVE (R76) -/
  att : s.lu.att = true ↔ s.lu.state = .active
  /-- WARN is asserted while the Prompt Timer is WARNED or LAPSED (R100) -/
  warn : s.pt.warn = true ↔ s.pt.state = .warned ∨ s.pt.state = .lapsed
  /-- RSTOUT is asserted exactly while the Reset Unit is in PULSING or HELD (R108) -/
  rstout : s.ru.rstout = true ↔ s.ru.state = .pulsing ∨ s.ru.state = .held
  /-- INT is asserted while the queue holds at least one record (R163) -/
  int : s.hp.int = true ↔ s.hp.queue ≠ []

/-- The event queue and the lost count keep their bounds (R158). -/
structure QueueBounded (s : State) : Prop where
  queue : s.hp.queue.length ≤ 32
  lost : s.hp.lost ≤ 255

/-- The transaction, the response that is owed and the snapshot buffer agree (R137, R141, R161, R164, R165). -/
structure PortConsistent (s : State) : Prop where
  /-- a response is owed in TURNAROUND and RESPONSE, and in no other phase -/
  response : s.hp.response.isSome = true ↔ s.hp.phase = .turnaround ∨ s.hp.phase = .response
  /-- an advance waits only for a response that is owed -/
  advance : s.hp.advance.isSome = true → s.hp.response.isSome = true
  /-- the record answered is still at the head (R161) -/
  event : s.hp.advance = some .event → s.hp.queue ≠ []
  /-- the copy answered from is still there (R165) -/
  entry : s.hp.advance = some .entry → s.hp.snapshot.isSome = true
  /-- the read cursor is 0 while the buffer is FREE (R164) -/
  cursor : s.hp.snapshot = none → s.hp.cursor = 0

/-- The fields of an entry keep their ranges and their presence (R1, R2). -/
structure EntryKept (e : Entry) : Prop where
  missCount : e.missCount ≤ 7
  splits : e.splits ≤ 255
  /-- the admission rounds remaining are present while the state is JOINING, absent in every other state (R1) -/
  admission : e.admission.isSome = true ↔ e.state = .joining
  /-- where they are present they lie between 1 and 8 (R1) -/
  admissionRange : ∀ n, e.admission = some n → 1 ≤ n ∧ n ≤ 8
  /-- an entry that is not ABSENT has a recorded incarnation (R1, R7) -/
  incarnation : e.state ≠ .absent → e.incarnation.isSome = true

/-- The own entry's fixed fields (R2). -/
structure OwnEntryFixed (e : Entry) : Prop where
  incarnation : e.incarnation.isSome = true
  missCount : e.missCount = 0
  viewAgrees : e.viewAgrees = true
  mismatchSeen : e.mismatchSeen = false
  strangerReported : e.strangerReported = false

/-- The Peer Table keeps its form, and so does the copy of it in a LOADED snapshot buffer (R1, R2, R164). -/
structure TableKept (s : State) : Prop where
  entries : ∀ a : Addr, EntryKept (s.entry a)
  own : OwnEntryFixed s.own
  copy : ∀ c, s.hp.snapshot = some c → ∀ a : Addr, EntryKept c.table[a]

/-- How many slots of peers can be over at a position of the round: sixteen slots, of which the own is none (R71, R81). -/
def RoundPos.slotsOver (own : Addr) (p : RoundPos) : Nat :=
  match p with
  | .slots n => if own.val < n then n - 1 else n
  | .ownSlot => own.val
  | .outside | .verdict | .rest => 15

/-- The counts keep the ranges that the rules give them (R5, R31, R72, R77, R82, R83, R87, R95, R107, R149, R164). -/
structure CountsBounded (s : State) : Prop where
  voterCount : s.vu.voterCount ≤ 16
  quorum : s.vu.quorum ≤ 16
  remaining : s.pt.remaining ≤ 65535
  attempt : s.ru.attempt ≤ 7
  pulse : s.ru.pulse ≤ 2550
  recovery : s.ru.recovery ≤ 255
  garbledTotal : s.lu.garbledTotal ≤ 65535
  /-- at most one round period (R72) -/
  roundTimer : ∀ n, s.lu.roundTimer = some n → n ≤ 2550
  /-- at most two round periods (R77) -/
  listenWindow : ∀ n, s.lu.listenWindow = some n → n ≤ 5100
  /-- the release comes when the line has read recessive for a round period (R87) -/
  recessiveTime : s.lu.recessiveTime ≤ 2550
  /-- the in-step and out-of-step counts, 0 to 15 (R82) -/
  inStep : s.lu.inStep ≤ 15
  outOfStep : s.lu.outOfStep ≤ 15
  /-- there are sixteen slots (R71) -/
  position : ∀ n, s.lu.pos = .slots n → n ≤ 16
  /-- each slot of a peer that is over has at most one outcome (R75, R82) -/
  outcomes : s.lu.outcomes.length ≤ s.lu.pos.slotsOver s.ownAddr
  /-- each frame counted is one of the outcomes (R82) -/
  counted : s.lu.inStep + s.lu.outOfStep ≤ s.lu.outcomes.length
  /-- V and Q of the copy (R164) -/
  copy : ∀ c, s.hp.snapshot = some c → c.voterCount ≤ 16 ∧ c.quorum ≤ 16

/-- The line state, the round position, the timers and the configured flag agree (R71, R72, R76, R77, R143, R147). -/
structure LineConsistent (s : State) : Prop where
  /-- the configured flag is no exactly while the line state is DETACHED (R143) -/
  configured : s.hp.config = none ↔ s.lu.state = .detached
  /-- the profile digest is the CRC-16 of the stored profile, absent while not configured (R147) -/
  digest : s.hp.digest = s.hp.config.map profileDigest
  /-- the stored record passed the values test (R145) -/
  record : ∀ r, s.hp.config = some r → recordInRange r = true
  /-- a round is in progress exactly in SYNCED and ACTIVE (R76) -/
  round : s.lu.pos = .outside ↔ s.online = false
  /-- the round timer runs exactly in SYNCED and ACTIVE (R72) -/
  roundTimer : s.lu.roundTimer.isSome = true ↔ s.online = true
  /-- the listen window runs exactly while the station searches (R77, R87) -/
  listenWindow : s.lu.listenWindow.isSome = true ↔ s.searching = true
  /-- only a LISTENING station waits for release (R86) -/
  waiting : s.lu.waitRelease = true → s.lu.state = .listening
  /-- the own frame and the verdict positions are driven in ACTIVE alone, and nothing while no round is in progress (R69, R80, R91) -/
  driving : s.lu.driving = .frame ∨ s.lu.driving = .verdict → s.lu.state = .active
  silent : s.online = false → s.lu.driving = .nothing

/-- The own entry, the Prompt Timer, the Reset Unit and the host accusation set agree (R2, R38, R44, R97, R103, R109, R121). -/
structure MembershipConsistent (s : State) : Prop where
  /-- the own entry is ABSENT whenever the line state is DETACHED or BLOCKED (R2) -/
  offline : s.lu.state = .detached ∨ s.lu.state = .blocked → s.own.state = .absent
  /-- the Prompt Timer is DISARMED exactly while the own entry is ABSENT, JOINING or RECOVERING (R97, R103) -/
  timer : s.pt.state = .disarmed ↔ s.own.state.isMember = false
  /-- the Reset Unit is IDLE while the own entry is JOINING, MEMBER or SUSPECT (R38, R121) -/
  resetIdle : s.own.state = .joining ∨ s.own.state.isMember = true → s.ru.state = .idle
  /-- a RECOVERING own entry has its Reset Unit PULSING or WAITING (R121) -/
  recovering : s.own.state = .recovering → s.ru.state = .pulsing ∨ s.ru.state = .waiting
  /-- an ABSENT own entry has its Reset Unit in an attempt only in BLOCKED (R113, R121) -/
  blocked : s.own.state = .absent → s.ru.state = .pulsing ∨ s.ru.state = .waiting → s.lu.state = .blocked
  /-- a Reset Unit that is not IDLE is a configured station's (R107, R110) -/
  resetConfigured : s.ru.state ≠ .idle → s.hp.config ≠ none
  /-- the host accusation set holds members' addresses and not the own, and is empty unless the own entry is a member (R44) -/
  accused : ∀ a : Addr, inSet a s.vu.hostAccused = true →
    a ≠ s.ownAddr ∧ (s.entry a).state.isMember = true ∧ s.own.state.isMember = true
  /-- the remaining time is 0 in DISARMED and LAPSED (R95) -/
  remaining : s.pt.state = .disarmed ∨ s.pt.state = .lapsed → s.pt.remaining = 0

/-- The Reset Unit's counts fit its state (R107, R109, R118). -/
structure ResetConsistent (s : State) : Prop where
  /-- the attempt number is 0 in IDLE (R109) -/
  idle : s.ru.state = .idle → s.ru.attempt = 0
  /-- it lies between 1 and the reset limit in PULSING and WAITING (R109) -/
  attempt : s.ru.state = .pulsing ∨ s.ru.state = .waiting → 1 ≤ s.ru.attempt ∧ s.ru.attempt ≤ s.resetLimit
  /-- it equals the reset limit in HELD (R109) -/
  held : s.ru.state = .held → s.ru.attempt = s.resetLimit
  /-- the remaining pulse time is counted in PULSING (R107) -/
  pulse : s.ru.state ≠ .pulsing → s.ru.pulse = 0
  /-- outside WAITING the recovery rounds remaining are 0, and in WAITING a round is left (R107, R113) -/
  recovery : s.ru.recovery = 0 ↔ s.ru.state ≠ .waiting
  /-- a release is requested in HELD alone (R118, R119) -/
  release : s.ru.releaseRequested = true → s.ru.state = .held
  /-- while rounds do not pass no release stands requested (R119) -/
  releaseOnline : s.ru.releaseRequested = true → s.online = true

/-- The voter set, the quorum, the tally and the drive set of the round (R5, R30, R31, R34). -/
structure VotesConsistent (s : State) : Prop where
  /-- V is the size of the voter set (R5) -/
  voterCount : s.vu.voterCount = setSize s.vu.voters
  /-- only voters are counted as accusers (R30) -/
  tally : ∀ j a : Addr, inSet a s.vu.tally[j] = true → inSet a s.vu.voters = true
  /-- Q is at least 1 and more than half the voters once a round has begun (R31) -/
  quorum : s.online = true → s.vu.voterCount / 2 + 1 ≤ s.vu.quorum
  /-- at most one of the two positions of an address is driven (R34) -/
  oneSide : ∀ j : Addr, ¬ (inSet j s.lu.condemnDrive = true ∧ inSet j s.lu.clearDrive = true)
  /-- no position of the own address is driven (R34) -/
  notOwn : inSet s.ownAddr s.lu.condemnDrive = false ∧ inSet s.ownAddr s.lu.clearDrive = false

/-- What has to hold together for the line, the membership and the reset sequence to stay in step. -/
structure PartConsistent (s : State) : Prop where
  line : LineConsistent s
  membership : MembershipConsistent s
  reset : ResetConsistent s

/-! ### The words of the statements -/

/-- The value of a byte of a record, counted from 1 as R172 counts them. -/
def byteAt (record : List Byte) (n : Nat) : Nat := (record.getD (n - 1) 0).toNat

/-- The Host Port once a taken command has been answered: TURNAROUND, with the response ready (R137, R140). -/
def HostPort.answering (h : HostPort) (status : Status) (data : List Byte) (advance : Option Advance) : HostPort :=
  { h with phase := .turnaround, response := some { status := status, data := data }, advance := advance }

/-- The slot of a peer may close at the station: rounds pass, the slot and the own slot are not passed over (R71, R81). -/
structure SlotOpen (s : State) (k : Addr) : Prop where
  /-- rounds pass at the station (R76) -/
  online : s.lu.state = .synced ∨ s.lu.state = .active
  /-- the slot is not the own (R80) -/
  peer : k ≠ s.hp.address
  /-- every slot below some `n` is over, this one is not, and the own slot lies behind it or before `n` -/
  position : ∃ n, s.lu.pos = .slots n ∧ n ≤ k.val ∧ (s.hp.address.val < n ∨ k.val < s.hp.address.val)

/-- A frame of the own profile with the own round number, or the first of its profile in the first round after an entry into
SYNCED: its slot outcome is FRAME (R81, R89). -/
structure InStep (s : State) (k : Addr) (f : FrameBody) : Prop where
  slot : SlotOpen s k
  digest : s.hp.digest = some f.digest
  round : s.lu.adoptOpen = true ∨ f.round = s.lu.roundNumber

/-- The Line Unit once the slot has closed with an outcome that no count keeps (R82). -/
def LineUnit.closed (l : LineUnit) (k : Addr) (o : SlotOutcome) : LineUnit :=
  { l with pos := .slots (k.val + 1), driving := .nothing, outcomes := l.outcomes ++ [(k, o)] }

/-- The Line Unit once the slot has closed with a FRAME (R82, R89). -/
def LineUnit.heard (l : LineUnit) (k : Addr) (f : FrameBody) : LineUnit :=
  { l.closed k (.frame f.round) with inStep := l.inStep + 1, roundNumber := f.round, adoptOpen := false }

/-- The entry of the sender of a FRAME before the frame is applied by its kind (R6, R20). -/
def State.heardEntry (s : State) (k : Addr) (f : FrameBody) : Entry :=
  { s.entry k with missCount := 0, lastHeard := some f.round, mismatchSeen := false }

/-- The entry with the incarnation and the reported fields of the frame recorded (R7). -/
def Entry.reported (f : FrameBody) (e : Entry) : Entry :=
  { e with incarnation := some f.incarnation, hostState := HostState.ofCode f.hostCode, attempt := f.attempt, flags := f.flags,
           service := f.service }

/-- The entry once it has entered ABSENT from another state (R4). -/
def Entry.gone (e : Entry) : Entry :=
  { e with state := .absent, admission := none, missCount := 0, splits := 0, strangerReported := false }

/-- Posts made one after another. -/
def State.postAll (es : List Event) (s : State) : State := es.foldl (fun t e => t.post e) s

/-- A condition as a list of at most one event. -/
def eventIf (p : Prop) [Decidable p] (e : Event) : List Event := if p then [e] else []

/-- The Line Unit and the View Unit once a round has begun, `voters` being the members of that moment (R5, R30, R31, R54, R75, R79, R88,
R89). `fresh` says that the station enters SYNCED with the mark. -/
def State.roundBegun (s : State) (driving : Driving) (fresh : Bool) (voters : AddrSet) : State :=
  let announces := s.own.state ≠ .absent ∨ s.vu.leavePending = true ∨ s.ru.state = .held
  { s with
    lu := { s.lu with
      state := if announces then .active else .synced, att := decide announces, driving := driving,
      roundTimer := some s.roundPeriodMs, listenWindow := none, waitRelease := false,
      roundNumber := if s.lu.numberSet then s.lu.roundNumber + 1 else 0, numberSet := true, adoptOpen := fresh, pos := .slots 0,
      outcomes := [], inStep := 0, outOfStep := 0, ownFrame := none, ownWhole := false, collisionPending := false,
      condemnField := 0, clearField := 0 }
    vu := { s.vu with
      voters := voters, voterCount := setSize voters, quorum := max s.quorumFloor (setSize voters / 2 + 1),
      tally := Vector.replicate 16 0, foreignMark := false } }

/-- The Prompt Timer disarmed, its expected sequence number kept (R103). -/
def PromptTimer.disarmed (p : PromptTimer) : PromptTimer := { p with state := .disarmed, remaining := 0, warn := false }

/-- The Reset Unit once an attempt has started (R110, R114). -/
def State.attemptStarted (s : State) : ResetUnit :=
  { s.ru with state := .pulsing, attempt := s.ru.attempt + 1, pulse := s.pulseMs, recovery := 0, confirmed := false, rstout := true }

/-- The Reset Unit once the host has been released (R119). -/
def ResetUnit.released (r : ResetUnit) : ResetUnit :=
  { r with state := .idle, releaseRequested := false, attempt := 0, confirmed := false, rstout := false }

/-- The Line Unit once the station has left the rounds (R72, R76, R86); what it leaves as it was is the model's choice (log entries 11, 21 and 24). -/
def LineUnit.outOfRounds (l : LineUnit) (st : LineState) : LineUnit :=
  { l with state := st, att := false, driving := .nothing, roundTimer := none, listenWindow := none, adoptOpen := false,
           pos := .outside, collisionPending := false }

end Sys2Proof.Machine
end

