-- ==== Sys2Proof/Certificates/Slice0/Obligations.lean ====
section
/-! DEFINITION. The statements for the provers. A statement gives the whole next state as a record, so that what it does not name is
unchanged; where it names blocks or entries one by one, the others are named as unchanged. -/

open Sys2Proof Sys2Proof.Machine

/-! ### The machine -/

/-- A step takes the command at the front of the queue and runs it with the queue's rest (log entry 2: the queue is the model's). -/
def Obligations.StepRunsFrontCommand : Prop :=
  ∀ (c : Instr) (rest : List Instr) (s : State),
    step { s with pending := c :: rest } = exec c { s with pending := rest }

/-- Every command in every state answers a next state, and none touches the commands that wait or the model's own count. This is the MODEL's
choice, no rule: the queue is the model's (log entry 2), POWER_ON and RESTART keep it (log entries 2 and 8), and an event that the part does
not look for changes nothing and answers a next state too (log entry 3). The opcode table says no more than which commands there are. -/
def Obligations.CommandsCompleteAndKeepTheQueue : Prop :=
  ∀ (c : Instr) (s : State), ∃ t, exec c s = .next t ∧ t.pending = s.pending ∧ t.ticks = s.ticks

/-- One idle millisecond (the model's choice, log entry 5): the Prompt Timer counts down in RUNNING and WARNED (R98), the pulse in
PULSING (R111), the round timer and the listen window while they run (R72, R77), and the recessive time up while waiting for
release (R87); a mark that the station drove has ended (R74). Where no count runs out nothing else happens. A count of the Prompt Timer or of the
pulse that runs out is taken in the same millisecond (R98, R99, R112), and so is a timer of the line: the round timer in the rest, the listen window
of a searching station, the recessive time of a round period (R72, R78, R87). Where one of each runs out both are taken, in either order (log
entry 6). -/
def Obligations.IdleMillisecond : Prop :=
  ∀ s : State, s.pending = [] →
    let roundDue : Prop := (s.lu.state = .synced ∨ s.lu.state = .active) ∧ s.lu.pos = .rest ∧
      (s.lu.roundTimer = some 0 ∨ s.lu.roundTimer = some 1)
    let windowDue : Prop := s.lu.state = .listening ∧ s.lu.waitRelease = false ∧
      (s.lu.listenWindow = some 0 ∨ s.lu.listenWindow = some 1)
    let releaseDue : Prop := s.lu.state = .listening ∧ s.lu.waitRelease = true ∧ s.roundPeriodMs ≤ s.lu.recessiveTime + 1
    let lineQuiet : Prop := ¬ roundDue ∧ ¬ windowDue ∧ ¬ releaseDue
    let localQuiet : Prop := (s.pt.state = .running → s.warningLead + 1 < s.pt.remaining) ∧
      (s.pt.state = .warned → 1 < s.pt.remaining) ∧ (s.ru.state = .pulsing → 1 < s.ru.pulse)
    let counted : State := { s with
      pt := { s.pt with remaining :=
        if s.pt.state = .running ∨ s.pt.state = .warned then s.pt.remaining - 1 else s.pt.remaining }
      ru := { s.ru with pulse := if s.ru.state = .pulsing then s.ru.pulse - 1 else s.ru.pulse }
      lu := { s.lu with
        driving := if s.lu.driving = .mark then .nothing else s.lu.driving
        roundTimer := s.lu.roundTimer.map (· - 1)
        listenWindow := s.lu.listenWindow.map (· - 1)
        recessiveTime :=
          if s.lu.state = .listening ∧ s.lu.waitRelease = true then s.lu.recessiveTime + 1 else s.lu.recessiveTime }
      ticks := s.ticks + 1 }
    (lineQuiet → localQuiet → step s = .next counted) ∧
    (lineQuiet → s.pt.state = .running → s.pt.remaining = s.warningLead + 1 → s.ru.state ≠ .pulsing →
      step s = .next ({ counted with pt := { counted.pt with state := .warned, warn := true } }.post
        (.promptWarning s.pt.expected))) ∧
    (lineQuiet → s.pt.state = .warned → s.pt.remaining = 1 → s.ru.state ≠ .pulsing →
      step s = .next ({ counted with pt := { counted.pt with state := .lapsed, warn := true } }.post
        (.promptLapsed s.pt.expected))) ∧
    (lineQuiet → s.ru.state = .pulsing → s.ru.pulse = 1 → s.pt.state = .disarmed →
      step s = .next ({ counted with ru := { counted.ru with
          state := .waiting, recovery := s.recoveryRounds, rstout := false } }.post
        (.attemptEnd (if s.ru.confirmed then .confirmed else .unconfirmed) s.ru.attempt))) ∧
    (localQuiet →
      (roundDue → step s = exec .roundTimerExpiry counted) ∧ (windowDue → step s = exec .listenWindowExpiry counted) ∧
      (releaseDue → step s = exec .lineReleased counted)) ∧
    (∀ c d : Instr,
      (c = .promptWarning ∧ s.pt.state = .running ∧ s.pt.remaining ≤ s.warningLead + 1 ∧ s.ru.state = .idle) ∨
        (c = .promptLapsed ∧ s.pt.state = .warned ∧ s.pt.remaining ≤ 1 ∧ s.ru.state = .idle) ∨
        (c = .pulseEnd ∧ s.ru.state = .pulsing ∧ s.ru.pulse ≤ 1 ∧ s.pt.state = .disarmed) →
      (d = .roundTimerExpiry ∧ roundDue) ∨ (d = .listenWindowExpiry ∧ windowDue) ∨ (d = .lineReleased ∧ releaseDue) →
      (∃ t, exec c counted = .next t ∧ step s = exec d t) ∨ (∃ t, exec d counted = .next t ∧ step s = exec c t))

/-! ### Power-on and the invariants -/

/-- What power-on leaves in every block (R154, R21, R94, R95, R107, R125). The MODEL's own, which no rule gives: the straps, the levels and
RSTSENSE as operands (log entry 1), the commands that wait kept (log entry 8), the recessive time 0 (log entry 9), mclrReady yes
(log entry 12) and the own accusation set empty (log entry 20). -/
def Obligations.PowerOnValues : Prop :=
  ∀ (straps levels : BitVec 4) (rstsense : Bool) (s : State), ∃ t,
    exec (.powerOn straps levels rstsense) s = .next t ∧ t.pending = s.pending ∧ t.ticks = s.ticks ∧
    t.hp.address.val = straps.toNat ∧
    t.hp = { address := t.hp.address, config := none, digest := none, queue := [], lost := 0, int := false, snapshot := none,
             cursor := 0, phase := .deselected, response := none, advance := none } ∧
    t.lu = { state := .detached, att := false, driving := .nothing, roundTimer := none, listenWindow := none,
             waitRelease := false, recessiveTime := 0, roundNumber := 0, numberSet := false, adoptOpen := false,
             pos := .outside, outcomes := [], inStep := 0, outOfStep := 0, ownFrame := none, ownWhole := false,
             collisionPending := false, condemnDrive := 0, clearDrive := 0, condemnField := 0, clearField := 0,
             garbledTotal := 0 } ∧
    (∀ a : Addr, t.entry a =
      { state := .absent, incarnation := if a = t.hp.address then some 0 else none, lastHeard := none, missCount := 0,
        hostState := .dormant, attempt := 0, flags := 0, service := 0, viewAgrees := true, admission := none, splits := 0,
        mismatchSeen := false, strangerReported := false }) ∧
    t.vu.hostAccused = 0 ∧ t.vu.voters = 0 ∧ t.vu.voterCount = 0 ∧ t.vu.quorum = 0 ∧ (∀ j : Addr, t.vu.tally[j] = 0) ∧
    t.vu.ownAccusations = 0 ∧ t.vu.leavePending = false ∧ t.vu.foreignMark = false ∧
    t.pt = { state := .disarmed, remaining := 0, expected := 1, warn := false } ∧
    t.ru = { state := .idle, attempt := 0, pulse := 0, recovery := 0, confirmed := false, releaseRequested := false,
             rstout := false, mclrReady := true, rstLatched := rstsense } ∧
    t.cm = { levels := levels, service := 0 } ∧ t.condFlags = 0 ∧ t.failing = false ∧ t.sdo = .highImpedance

/-- The machine right after power-on meets every invariant. -/
def Obligations.ResetMeetsEveryInvariant : Prop :=
  PinsFollow State.reset ∧ QueueBounded State.reset ∧ CountsBounded State.reset ∧ PortConsistent State.reset ∧ TableKept State.reset ∧
    LineConsistent State.reset ∧ PartConsistent State.reset ∧ VotesConsistent State.reset

/-- ATT, WARN, RSTOUT and INT follow their states through every step (R76, R100, R108, R163), where the line and the configuration agree
as StepKeepsLine says that every step keeps them: a station that is configured was DETACHED before. -/
def Obligations.StepKeepsPins : Prop :=
  ∀ s t : State, PinsFollow s → LineConsistent s → step s = .next t → PinsFollow t

/-- The event queue never holds more than 32 records, and the lost count never exceeds 255 (R158). Every other count keeps its range too: V, Q, the
remaining time, the attempt number, the pulse, the recovery rounds, the garbled-slot total, the timers of the line, and the in-step and out-of-step
counts (R5, R31, R72, R77, R82, R83, R87, R95, R107), where the line, the membership and the reset sequence agree as StepKeepsPart says. -/
def Obligations.StepKeepsQueueBounds : Prop :=
  (∀ s t : State, QueueBounded s → step s = .next t → QueueBounded t) ∧
  (∀ s t : State, CountsBounded s → PartConsistent s → step s = .next t → CountsBounded t)

/-- The transaction, the response owed, the advance that waits, the queue and the snapshot buffer agree through every step (R137,
R141, R161, R164, R165). -/
def Obligations.StepKeepsPort : Prop :=
  ∀ s t : State, PortConsistent s → step s = .next t → PortConsistent t

/-- The Peer Table and the copy of it in the snapshot buffer keep their form through every step: the counts their ranges, the admission rounds
remaining present in JOINING alone and between 1 and 8, a peer that is not ABSENT its incarnation, the own entry its fixed fields (R1, R2, R164).
The admit rounds are those of a record that passed its values test, as StepKeepsLine says. -/
def Obligations.StepKeepsTable : Prop :=
  ∀ s t : State, TableKept s → LineConsistent s → step s = .next t → TableKept t

/-- The line state, the timers, the round position, the drive and the configuration agree through every step (R69, R72, R76, R77, R86,
R143, R147). -/
def Obligations.StepKeepsLine : Prop :=
  ∀ s t : State, LineConsistent s → step s = .next t → LineConsistent t

/-- The own entry, the Prompt Timer, the Reset Unit, the host accusation set and the line agree through every step (R2, R38, R44, R97,
R103, R107, R109, R118, R121). -/
def Obligations.StepKeepsPart : Prop :=
  ∀ s t : State, PartConsistent s → step s = .next t → PartConsistent t

/-- V, the tally, Q and the drive set fit the voters of the round through every step (R5, R30, R31, R34). -/
def Obligations.StepKeepsVotes : Prop :=
  ∀ s t : State, VotesConsistent s → step s = .next t → VotesConsistent t

/-! ### Formats -/

/-- An announce frame of sixteen bytes has every field at the place that R169 gives it, and is read back field for field in its sender's slot: no bit
of a field is lost. The kind and host state codes are R169's, and a receiver records code 7 as FAULT. -/
def Obligations.AnnounceFrameRoundTrip : Prop :=
  (∀ (kind : FrameKind) (sender : Addr) (f : FrameBody),
    let r := frameBytes kind sender f
    r.length = 16 ∧ frameOfBytes sender r = some (kind, f) ∧
    byteAt r 1 = 16 * (match kind with | .announce => 0x5 | .join => 0x9 | .leave => 0xC) + sender.val ∧
    byteAt r 2 = f.incarnation.toNat ∧ 256 * byteAt r 3 + byteAt r 4 = f.round.toNat ∧
    256 * byteAt r 5 + byteAt r 6 = f.digest.toNat ∧ byteAt r 7 = 16 * f.hostCode.toNat + f.attempt.toNat ∧
    byteAt r 8 = f.flags.toNat ∧ 256 * byteAt r 9 + byteAt r 10 = f.service.toNat ∧
    256 * byteAt r 11 + byteAt r 12 = f.view.toNat ∧ 256 * byteAt r 13 + byteAt r 14 = f.accuses.toNat ∧
    256 * byteAt r 15 + byteAt r 16 = (crc16 (r.take 14)).toNat) ∧
  ([HostState.dormant, .running, .warned, .lapsed, .fault, .resetting, .held].map (fun h => h.code.toNat) = [0, 1, 2, 3, 4, 5, 6] ∧
    (∀ h : HostState, HostState.ofCode h.code = h) ∧ HostState.ofCode 7 = .fault)

/-- Sixteen bytes on the line: the stuffing of R70 is taken out again by a receiver; no run of one level is longer than four bit times;
start bit, stuffed frame and end bit take at most 175 bit times of 2 µs, 350 µs in all. -/
def Obligations.LineBitsRoundTrip : Prop :=
  ∀ bs : List Byte, bs.length = 16 →
    bytesOfLine (lineBits bs) = some bs ∧ (lineBits bs).length ≤ 175 ∧
    ∀ (before after : List Bool) (b : Bool), lineBits bs ≠ before ++ [b, b, b, b, b] ++ after

/-- The frame of every host command, with every parameter, passes the checks of R139 as that command, and no shorter piece of it is
complete (R138). Its bytes are the code of R170, the length, the parameters and the CRC-8; the parameters are those of R170's table, the fourteen bytes of
CONFIGURE in the order of R171, two-byte fields with the high byte first (R168). On SDI each byte travels with its most significant bit first, and the bits
of a byte left incomplete are discarded (R136). -/
def Obligations.CommandFrameRoundTrip : Prop :=
  ∀ c : HostCommand,
    checkFrame c.frame = .good c ∧ (∀ n, n < c.frame.length → checkFrame (c.frame.take n) = .incomplete) ∧
    (let body := c.code :: BitVec.ofNat 8 c.params.length :: c.params
     c.frame = body ++ [crc8 body]) ∧
    c.code.toNat = (match c with
      | .status => 0x10 | .configure _ => 0x11 | .restart => 0x12 | .join => 0x20 | .leave => 0x21 | .accuse _ => 0x22
      | .pardon _ => 0x23 | .prompt _ => 0x30 | .publish _ => 0x31 | .snapshot => 0x40 | .readEntry => 0x41
      | .discardSnapshot => 0x42 | .readEvent => 0x48) ∧
    (let p := c.params
     match c with
      | .configure r =>
        p.length = 14 ∧ byteAt p 1 = r.roundPeriod.toNat ∧ byteAt p 2 = r.missLimit.toNat ∧ byteAt p 3 = r.admitRounds.toNat ∧
        byteAt p 4 = r.quorumFloor.toNat ∧ 256 * byteAt p 5 + byteAt p 6 = r.promptPeriod.toNat ∧
        256 * byteAt p 7 + byteAt p 8 = r.warningLead.toNat ∧ byteAt p 9 = r.recoveryRounds.toNat ∧
        byteAt p 10 = r.resetLimit.toNat ∧ byteAt p 11 = r.pulseDuration.toNat ∧ byteAt p 12 = r.failMask.toNat ∧
        byteAt p 13 = r.polarity.toNat ∧ byteAt p 14 = r.enables.toNat
      | .accuse a => p = [a]
      | .pardon a => p = [a]
      | .prompt n => p = [n]
      | .publish w => p.length = 2 ∧ 256 * byteAt p 1 + byteAt p 2 = w.toNat
      | .status | .restart | .join | .leave | .snapshot | .readEntry | .discardSnapshot | .readEvent => p = []) ∧
    (∀ (bytes : List Byte) (cut : List Bool), cut.length < 8 →
      bytesOfBits (bytes.flatMap (fun b => [b.getLsbD 7, b.getLsbD 6, b.getLsbD 5, b.getLsbD 4, b.getLsbD 3, b.getLsbD 2,
        b.getLsbD 1, b.getLsbD 0]) ++ cut) = bytes)

/-- The nineteen bytes of the status record and the fifteen of the snapshot entry record say every item at the place that R172 gives
it, with R172's codes, for counts in the ranges of R149 and R1, which StepKeepsQueueBounds and StepKeepsTable say that every step keeps. -/
def Obligations.RecordsCarryEveryItem : Prop :=
  (∀ s : State, s.vu.voterCount ≤ 16 → s.vu.quorum ≤ 16 → s.pt.remaining ≤ 65535 → s.ru.attempt ≤ 7 → s.ru.recovery ≤ 255 →
    s.hp.queue.length ≤ 32 → s.hp.lost ≤ 255 → s.lu.garbledTotal ≤ 65535 →
    let r := s.statusRecord
    r.length = 19 ∧
    byteAt r 1 = 128 * s.hp.config.isSome.toNat + 16 * s.lu.state.code.toNat + s.hp.address.val ∧
    byteAt r 2 = 32 * s.own.state.code.toNat + 8 * s.pt.state.code.toNat + 2 * s.ru.state.code.toNat +
      s.hp.snapshot.isSome.toNat ∧
    byteAt r 3 = (s.own.incarnation.getD 0).toNat ∧ 256 * byteAt r 4 + byteAt r 5 = s.lu.roundNumber.toNat ∧
    byteAt r 6 = s.vu.voterCount ∧ byteAt r 7 = s.vu.quorum ∧ 256 * byteAt r 8 + byteAt r 9 = s.pt.remaining ∧
    byteAt r 10 = s.pt.expected.toNat ∧ byteAt r 11 = 16 * s.hp.cursor.val + s.ru.attempt ∧ byteAt r 12 = s.ru.recovery ∧
    byteAt r 13 = s.condFlags.toNat ∧ 256 * byteAt r 14 + byteAt r 15 = s.cm.service.toNat ∧
    byteAt r 16 = s.hp.queue.length ∧ byteAt r 17 = s.hp.lost ∧ 256 * byteAt r 18 + byteAt r 19 = s.lu.garbledTotal) ∧
  (∀ (c : Snapshot) (a : Addr), c.voterCount ≤ 16 → c.quorum ≤ 16 → c.table[a].missCount ≤ 7 → c.table[a].splits ≤ 255 →
    (∀ n, c.table[a].admission = some n → n ≤ 8) →
    let r := c.entryRecord a
    let e := c.table[a]
    r.length = 15 ∧
    byteAt r 1 = 16 * e.state.code.toNat + a.val ∧ 256 * byteAt r 2 + byteAt r 3 = c.round.toNat ∧
    byteAt r 4 = c.voterCount ∧ byteAt r 5 = c.quorum ∧
    byteAt r 6 = e.incarnation.isSome.toNat + 2 * e.lastHeard.isSome.toNat + 4 * e.admission.isSome.toNat +
      8 * e.viewAgrees.toNat + 16 * e.mismatchSeen.toNat + 32 * e.strangerReported.toNat ∧
    byteAt r 7 = (e.incarnation.getD 0).toNat ∧ 256 * byteAt r 8 + byteAt r 9 = (e.lastHeard.getD 0).toNat ∧
    byteAt r 10 = 16 * e.hostState.code.toNat + e.attempt.toNat ∧ byteAt r 11 = 16 * e.admission.getD 0 + e.missCount ∧
    byteAt r 12 = e.flags.toNat ∧ 256 * byteAt r 13 + byteAt r 14 = e.service.toNat ∧ byteAt r 15 = e.splits) ∧
  ([LineState.detached, .listening, .synced, .active, .blocked].map (fun x => x.code.toNat) = [0, 1, 2, 3, 4] ∧
    [EntryState.absent, .joining, .member, .suspect, .recovering].map (fun x => x.code.toNat) = [0, 1, 2, 3, 4] ∧
    [TimerState.disarmed, .running, .warned, .lapsed].map (fun x => x.code.toNat) = [0, 1, 2, 3] ∧
    [ResetState.idle, .pulsing, .waiting, .held].map (fun x => x.code.toNat) = [0, 1, 2, 3])

/-- The eight bytes of the event record of every kind, with R173's kind, reason and cause codes; and the records of two posts with counts in their
ranges have the same bytes only where kind, round number, subject and detail are the same. -/
def Obligations.EventRecordsDistinct : Prop :=
  (∀ r q : EventRecord,
    (∀ x ∈ [r, q], match x.event with
      | .condemned _ n | .split _ n | .attemptStart n | .attemptEnd _ n | .hostHeld n | .lossRecord n => n ≤ 255
      | _ => True) →
    r.bytes.length = 8 ∧ (r.bytes = q.bytes → r = q)) ∧
  (∀ (w : Word16) (p : Addr) (i j : Byte) (n : Nat) (q : BitVec 3) (f : BitVec 4) (x y : Word16),
    let bytes (e : Event) : List Byte := ({ round := w, event := e } : EventRecord).bytes
    let of (kind : Byte) (d5 d6 d7 d8 : Byte) : List Byte := [kind, highByte w, lowByte w, BitVec.ofNat 8 p.val, d5, d6, d7, d8]
    let alone (kind : Byte) (d5 d6 d7 d8 : Byte) : List Byte := [kind, highByte w, lowByte w, 0xFF, d5, d6, d7, d8]
    let count : Byte := BitVec.ofNat 8 n
    bytes (.joined p i) = of 0x01 i 0 0 0 ∧
    bytes (.left p .silent) = of 0x02 0 0 0 0 ∧ bytes (.left p .leave) = of 0x02 1 0 0 0 ∧
    bytes (.suspected p .evidence) = of 0x03 0 0 0 0 ∧ bytes (.suspected p .accused) = of 0x03 1 0 0 0 ∧
    bytes (.suspected p .self) = of 0x03 2 0 0 0 ∧ bytes (.suspected p .split) = of 0x03 3 0 0 0 ∧
    bytes (.cleared p) = of 0x04 0 0 0 0 ∧ bytes (.condemned p n) = of 0x05 count 0 0 0 ∧ bytes (.split p n) = of 0x06 count 0 0 0 ∧
    bytes (.lost p) = of 0x07 0 0 0 0 ∧ bytes (.lossRecord n) = alone 0x07 count 0 0 0 ∧
    bytes (.heldSeen p q) = of 0x08 (q.setWidth 8) 0 0 0 ∧ bytes (.restarted p i j) = of 0x09 i j 0 0 ∧
    bytes (.stranger p i) = of 0x0A i 0 0 0 ∧ bytes (.condition p f) = of 0x0B (f.setWidth 8) 0 0 0 ∧
    bytes (.service p x) = of 0x0C (highByte x) (lowByte x) 0 0 ∧
    bytes (.profileMismatch p x) = of 0x0D (highByte x) (lowByte x) 0 0 ∧
    bytes (.viewMismatch p x) = of 0x0E (highByte x) (lowByte x) 0 0 ∧
    bytes (.joinDone i) = alone 0x21 i 0 0 0 ∧
    bytes (.joinFailed .duplicateAddress) = alone 0x22 0 0 0 0 ∧ bytes (.joinFailed .profile) = alone 0x22 1 0 0 0 ∧
    bytes (.joinFailed .withdrawn) = alone 0x22 2 0 0 0 ∧
    bytes (.promptWarning i) = alone 0x23 i 0 0 0 ∧ bytes (.promptLapsed i) = alone 0x24 i 0 0 0 ∧
    bytes (.inputChange f) = alone 0x25 (f.setWidth 8) 0 0 0 ∧ bytes (.attemptStart n) = alone 0x26 count 0 0 0 ∧
    bytes (.attemptEnd .confirmed n) = alone 0x27 0 count 0 0 ∧ bytes (.attemptEnd .unconfirmed n) = alone 0x27 1 count 0 0 ∧
    bytes (.attemptEnd .rejoined n) = alone 0x27 2 count 0 0 ∧ bytes (.hostHeld n) = alone 0x28 count 0 0 0 ∧
    bytes .hostReleased = alone 0x29 0 0 0 0 ∧ bytes .hostResetSeen = alone 0x2A 0 0 0 0 ∧
    bytes (.lineSynced .markObserved) = alone 0x41 0 0 0 0 ∧ bytes (.lineSynced .ownMark) = alone 0x41 1 0 0 0 ∧
    bytes .lineStuck = alone 0x42 0 0 0 0 ∧ bytes .lineReleased = alone 0x43 0 0 0 0 ∧ bytes .duplicateAddress = alone 0x44 0 0 0 0 ∧
    bytes (.roundResync x y) = alone 0x45 (highByte x) (lowByte x) (highByte y) (lowByte y))

/-! ### The host port -/

/-- The phases of a transaction (R137, R141): NCS begins one and ends it from any phase, dropping the response and its advance and
nothing else; the turnaround ends in RESPONSE. An NCS_ASSERT outside DESELECTED and a TURNAROUND_END outside TURNAROUND change nothing
(the model's, log entry 3). SDO is at high impedance, carries filler, every bit of it set, or the response frame by the phase, each byte with its most
significant bit first (R136); the status codes are R170's. -/
def Obligations.TransactionPhases : Prop :=
  ∀ s : State,
    (s.hp.phase = .deselected → exec .ncsAssert s = .next { s with hp := { s.hp with phase := .command } }) ∧
    (s.hp.phase ≠ .deselected → exec .ncsAssert s = .next s) ∧
    exec .ncsRelease s = .next { s with hp := { s.hp with phase := .deselected, response := none, advance := none } } ∧
    (s.hp.phase = .turnaround → exec .turnaroundEnd s = .next { s with hp := { s.hp with phase := .response } }) ∧
    (s.hp.phase ≠ .turnaround → exec .turnaroundEnd s = .next s) ∧
    (s.hp.phase = .deselected → s.sdo = .highImpedance) ∧
    (s.hp.phase = .command ∨ s.hp.phase = .turnaround ∨ s.hp.phase = .trailer → s.sdo = .filler) ∧
    (∀ r : Response, s.hp.phase = .response → s.hp.response = some r →
      let frame := r.status.code :: BitVec.ofNat 8 r.data.length :: r.data ++
        [crc8 (r.status.code :: BitVec.ofNat 8 r.data.length :: r.data)]
      s.sdo = .frame frame ∧
      ∀ (n m : Nat) (b : Byte), frame[n]? = some b → m < 8 → s.sdoLevel (8 * n + m) = some (b.getLsbD (7 - m))) ∧
    (∀ k, (s.hp.phase = .deselected → s.sdoLevel k = none) ∧
      (s.hp.phase = .command ∨ s.hp.phase = .turnaround ∨ s.hp.phase = .trailer → s.sdoLevel k = some true)) ∧
    [Status.ok, .empty, .pending, .late, .refusedState, .refusedValue, .refusedSeq, .notConfigured, .badCommand, .badCheck].map
      (fun x => x.code.toNat) = [0x00, 0x01, 0x02, 0x03, 0x10, 0x11, 0x12, 0x13, 0x20, 0x21]

/-- A response delivered whole takes the Host Port from RESPONSE to TRAILER, and only then do a READ_EVENT and a READ_ENTRY advance: the head
record leaves the queue and INT follows (R161, R163); the cursor goes from 0 to 14 to the next entry, and after 15 the buffer is FREE
with cursor 0 (R165). No other command's delivery changes anything more (R141). -/
def Obligations.DeliveryAdvances : Prop :=
  ∀ s : State,
    (s.hp.phase ≠ .response → exec .responseDelivered s = .next s) ∧
    (s.hp.phase = .response →
      (s.hp.advance = none →
        exec .responseDelivered s = .next { s with hp := { s.hp with phase := .trailer, response := none } }) ∧
      (∀ (r : EventRecord) (rest : List EventRecord), s.hp.advance = some .event → s.hp.queue = r :: rest →
        exec .responseDelivered s = .next { s with hp := { s.hp with
          phase := .trailer, response := none, advance := none, queue := rest, int := decide (rest ≠ []) } }) ∧
      (s.hp.advance = some .entry → s.hp.cursor.val ≤ 14 →
        ∃ n : Addr, n.val = s.hp.cursor.val + 1 ∧
          exec .responseDelivered s = .next { s with hp := { s.hp with
            phase := .trailer, response := none, advance := none, cursor := n } }) ∧
      (s.hp.advance = some .entry → s.hp.cursor.val = 15 →
        exec .responseDelivered s = .next { s with hp := { s.hp with
          phase := .trailer, response := none, advance := none, snapshot := none, cursor := 0 } }))

/-- A complete command frame that fails a check is answered and changes nothing else (R138, R139, R170): a length byte above 24 closes
the frame and is answered BAD_COMMAND; a wrong check byte is answered BAD_CHECK, whatever the code; with the right check byte, a code
and parameters that are no command's are answered BAD_COMMAND. The levels on SDI are the bits of the frame's bytes, and `cut` those of a byte left
incomplete, which are discarded; fewer than eight levels carry no byte and have no effect (R136). -/
def Obligations.BadFrameAnswered : Prop :=
  ∀ (s : State) (code len : Byte) (cut : List Bool), s.hp.phase = .command → cut.length < 8 →
    exec (.badCommandFrame cut) s = .next s ∧
    (24 < len.toNat →
      exec (.badCommandFrame (dataBits [code, len] ++ cut)) s = .next { s with hp := s.hp.answering .badCommand [] none }) ∧
    (∀ (params : List Byte) (check : Byte), len.toNat ≤ 24 → params.length = len.toNat →
      (check ≠ crc8 (code :: len :: params) →
        exec (.badCommandFrame (dataBits (code :: len :: params ++ [check]) ++ cut)) s =
          .next { s with hp := s.hp.answering .badCheck [] none }) ∧
      (check = crc8 (code :: len :: params) → (∀ c : HostCommand, ¬ (c.code = code ∧ c.params = params)) →
        exec (.badCommandFrame (dataBits (code :: len :: params ++ [check]) ++ cut)) s =
          .next { s with hp := s.hp.answering .badCommand [] none }))

/-- A command frame completes in COMMAND alone: in any other phase no command is taken and nothing changes (R137, R138; that a command
offered there is no step at all is the model's, log entry 3). Before configuration each of the ten commands but CONFIGURE, STATUS and RESTART is
answered NOT_CONFIGURED, whatever its parameters, and changes nothing else (R139, R143). -/
def Obligations.CommandsNotExecuted : Prop :=
  ∀ (s : State) (r : ConfigRecord) (a b n : Byte) (w : Word16) (sdi : List Bool) (c : Instr),
    (s.hp.phase ≠ .command →
      c ∈ [Instr.configure r, .status, .restart, .join, .leave, .accuse a, .pardon b, .prompt n, .publish w, .snapshot, .readEntry,
        .discardSnapshot, .readEvent, .badCommandFrame sdi] →
      exec c s = .next s) ∧
    (s.hp.phase = .command → s.hp.config = none →
      c ∈ [Instr.join, .leave, .accuse a, .pardon b, .prompt n, .publish w, .snapshot, .readEntry, .discardSnapshot, .readEvent] →
      exec c s = .next { s with hp := s.hp.answering .notConfigured [] none })

/-- CONFIGURE (R144, R145, R146, R147, R171): REFUSED_STATE when configured, whatever the record holds; REFUSED_VALUE when a field is out of
its range or an unused bit is set; otherwise the record and the profile digest are stored, the line state is LISTENING with a listen
window of two round periods, and the answer carries the digest. Nothing else changes. -/
def Obligations.ConfigureAnswered : Prop :=
  ∀ (s : State) (r : ConfigRecord), s.hp.phase = .command →
    let inRange : Prop :=
      (2 ≤ r.roundPeriod.toNat ∧ 1 ≤ r.missLimit.toNat ∧ r.missLimit.toNat ≤ 7 ∧ 1 ≤ r.admitRounds.toNat ∧
        r.admitRounds.toNat ≤ 8 ∧ 1 ≤ r.quorumFloor.toNat ∧ r.quorumFloor.toNat ≤ 16 ∧ 100 ≤ r.promptPeriod.toNat ∧
        10 ≤ r.warningLead.toNat ∧ r.warningLead.toNat + 10 ≤ r.promptPeriod.toNat ∧ 2 ≤ r.recoveryRounds.toNat ∧
        1 ≤ r.resetLimit.toNat ∧ r.resetLimit.toNat ≤ 7 ∧ 1 ≤ r.pulseDuration.toNat) ∧
      (r.failMask.toNat ≤ 15 ∧ r.polarity.toNat ≤ 15 ∧ r.enables.toNat ≤ 7)
    let digest := crc16 [r.roundPeriod, r.missLimit, r.admitRounds, r.quorumFloor]
    (s.hp.config ≠ none → exec (.configure r) s = .next { s with hp := s.hp.answering .refusedState [] none }) ∧
    (s.hp.config = none → ¬ inRange →
      exec (.configure r) s = .next { s with hp := s.hp.answering .refusedValue [] none }) ∧
    (s.hp.config = none → inRange →
      exec (.configure r) s = .next { s with
        hp := { s.hp with config := some r, digest := some digest }.answering .ok [highByte digest, lowByte digest] none
        lu := { s.lu with state := .listening, waitRelease := false,
                          listenWindow := some (2 * (10 * r.roundPeriod.toNat)) } })

/-- STATUS is answered OK in every state with the status record of that moment and changes nothing else (R149, R150). READ_EVENT answers
EMPTY, or the record at the head, which stays until the answer is delivered whole (R161). -/
def Obligations.StatusAndReadEventAnswered : Prop :=
  ∀ s : State, s.hp.phase = .command →
    exec .status s = .next { s with hp := s.hp.answering .ok s.statusRecord none } ∧
    (s.hp.config ≠ none → s.hp.queue = [] →
      exec .readEvent s = .next { s with hp := s.hp.answering .empty [] none }) ∧
    (∀ (r : EventRecord) (rest : List EventRecord), s.hp.config ≠ none → s.hp.queue = r :: rest →
      exec .readEvent s = .next { s with hp := s.hp.answering .ok r.bytes (some .event) })

/-- RESTART (R151, R152): accepted when the own entry is ABSENT and the Reset Unit IDLE, configured or not, and refused otherwise with no
effect. Accepted, it has in every block the effect of power-on but for the own incarnation, the own address, the filtered levels and
the RSTSENSE assertion in progress; the transaction goes on. The values that power-on has from the model alone RESTART has too (log entries 9, 12 and
20). -/
def Obligations.RestartAnswered : Prop :=
  ∀ s : State, s.hp.phase = .command →
    (¬ (s.own.state = .absent ∧ s.ru.state = .idle) →
      exec .restart s = .next { s with hp := s.hp.answering .refusedState [] none }) ∧
    (s.own.state = .absent → s.ru.state = .idle →
      let p := State.powerOn s.hp.address s.cm.levels s.ru.rstLatched
      ∃ t, exec .restart s = .next t ∧ t.lu = p.lu ∧ t.pt = p.pt ∧ t.ru = p.ru ∧ t.cm = p.cm ∧
        t.hp = p.hp.answering .ok [] none ∧ t.pending = s.pending ∧ t.ticks = s.ticks ∧
        t.vu = { p.vu with table := t.vu.table } ∧
        (∀ a : Addr, a ≠ s.hp.address → t.entry a = p.entry a) ∧
        (∀ i, s.own.incarnation = some i → t.own = { p.own with incarnation := some i }))

/-- JOIN (R49, R50, R54, R116): accepted in SYNCED or ACTIVE with the own entry ABSENT or RECOVERING and the Reset Unit IDLE or WAITING.
Accepted, the own incarnation is one greater, the own entry JOINING with the admit rounds to go, a waiting attempt ends with ATTEMPT_END
rejoined, and the answer carries the new incarnation. The Prompt Timer is not armed. -/
def Obligations.JoinAnswered : Prop :=
  ∀ s : State, s.hp.phase = .command → s.hp.config ≠ none →
    let accepted := (s.lu.state = .synced ∨ s.lu.state = .active) ∧ (s.own.state = .absent ∨ s.own.state = .recovering) ∧
      (s.ru.state = .idle ∨ s.ru.state = .waiting)
    (¬ accepted → exec .join s = .next { s with hp := s.hp.answering .refusedState [] none }) ∧
    (∀ i, s.own.incarnation = some i → accepted →
      let e : Entry := { s.own with state := .joining, admission := some s.admitRounds, incarnation := some (i + 1) }
      let hp := if s.ru.state = .waiting then (s.post (.attemptEnd .rejoined s.ru.attempt)).hp else s.hp
      exec .join s = .next { s with
        vu := { (s.setEntry s.hp.address e).vu with foreignMark := false }
        ru := if s.ru.state = .waiting then
            { s.ru with state := .idle, recovery := 0, confirmed := false, attempt := 0, rstout := false }
          else s.ru
        hp := hp.answering .ok [i + 1] none })

/-- LEAVE (R61, R62, R4): accepted with the own entry JOINING, MEMBER or SUSPECT. Accepted, the Prompt Timer is disarmed with its expected
number kept, the host accusation set and the service word are cleared, JOIN_FAILED withdrawn is posted when the entry was JOINING, the own
entry is ABSENT, and one LEAVE frame is pending. The incarnation stays. -/
def Obligations.LeaveAnswered : Prop :=
  ∀ s : State, s.hp.phase = .command → s.hp.config ≠ none →
    (s.own.state = .absent ∨ s.own.state = .recovering →
      exec .leave s = .next { s with hp := s.hp.answering .refusedState [] none }) ∧
    (s.own.state = .joining ∨ s.own.state = .member ∨ s.own.state = .suspect →
      let e : Entry := { s.own with
        state := .absent, admission := none, missCount := 0, splits := 0, strangerReported := false }
      let hp := if s.own.state = .joining then (s.post (.joinFailed .withdrawn)).hp else s.hp
      exec .leave s = .next { s with
        pt := { s.pt with state := .disarmed, remaining := 0, warn := false }
        cm := { s.cm with service := 0 }
        vu := { (s.setEntry s.hp.address e).vu with hostAccused := 0, leavePending := true }
        hp := hp.answering .ok [] none })

/-- ACCUSE (R45, R27): the value is tested before the state. An accepted address joins the host accusation set, and a MEMBER entry
becomes SUSPECT with SUSPECTED, cause EVIDENCE; the answer carries the set as it stands after the command. -/
def Obligations.AccuseAnswered : Prop :=
  ∀ (s : State) (a : Byte), s.hp.phase = .command → s.hp.config ≠ none →
    (15 < a.toNat ∨ a.toNat = s.hp.address.val →
      exec (.accuse a) s = .next { s with hp := s.hp.answering .refusedValue [] none }) ∧
    ∀ j : Addr, a.toNat = j.val → j ≠ s.hp.address →
      (¬ (s.own.state.isMember = true ∧ (s.entry j).state.isMember = true) →
        exec (.accuse a) s = .next { s with hp := s.hp.answering .refusedState [] none }) ∧
      (s.own.state.isMember = true → (s.entry j).state.isMember = true →
        let set := s.vu.hostAccused ||| BitVec.twoPow 16 j.val
        (inSet j s.vu.hostAccused = true →
          exec (.accuse a) s = .next { s with
            hp := s.hp.answering .ok [highByte s.vu.hostAccused, lowByte s.vu.hostAccused] none }) ∧
        (inSet j s.vu.hostAccused = false → (s.entry j).state = .suspect →
          exec (.accuse a) s = .next { s with
            vu := { s.vu with hostAccused := set }
            hp := s.hp.answering .ok [highByte set, lowByte set] none }) ∧
        (inSet j s.vu.hostAccused = false → (s.entry j).state = .member →
          exec (.accuse a) s = .next { s with
            vu := { (s.setEntry j { s.entry j with state := .suspect, admission := none }).vu with hostAccused := set }
            hp := (s.post (.suspected j .evidence)).hp.answering .ok [highByte set, lowByte set] none }))

/-- PARDON (R46) takes an address out of the host accusation set, whether it was there or not; a byte above 15 is answered REFUSED_VALUE.
PUBLISH (R132) sets the service word in every state of a configured station and posts nothing. -/
def Obligations.PardonAndPublishAnswered : Prop :=
  ∀ (s : State) (a : Byte) (w : Word16), s.hp.phase = .command → s.hp.config ≠ none →
    (15 < a.toNat → exec (.pardon a) s = .next { s with hp := s.hp.answering .refusedValue [] none }) ∧
    (∀ j : Addr, a.toNat = j.val →
      let set := s.vu.hostAccused &&& ~~~(BitVec.twoPow 16 j.val)
      exec (.pardon a) s = .next { s with
        vu := { s.vu with hostAccused := set }
        hp := s.hp.answering .ok [highByte set, lowByte set] none }) ∧
    exec (.publish w) s = .next { s with cm := { s.cm with service := w }, hp := s.hp.answering .ok [] none }

/-- PROMPT by the state of the timer (R101, R100): refused in DISARMED; with the expected number in RUNNING or WARNED a fresh period, WARN
released and the next number expected; with another number REFUSED_SEQ and LATE in LAPSED, each with the expected number and no
effect. -/
def Obligations.PromptAnswered : Prop :=
  ∀ (s : State) (n : Byte), s.hp.phase = .command → s.hp.config ≠ none →
    (s.pt.state = .disarmed → exec (.prompt n) s = .next { s with hp := s.hp.answering .refusedState [] none }) ∧
    (s.pt.state = .lapsed → exec (.prompt n) s = .next { s with hp := s.hp.answering .late [s.pt.expected] none }) ∧
    (s.pt.state = .running ∨ s.pt.state = .warned → n ≠ s.pt.expected →
      exec (.prompt n) s = .next { s with hp := s.hp.answering .refusedSeq [s.pt.expected] none }) ∧
    (s.pt.state = .running ∨ s.pt.state = .warned → n = s.pt.expected →
      exec (.prompt n) s = .next { s with
        pt := { state := .running, remaining := s.promptPeriod, expected := n + 1, warn := false }
        hp := s.hp.answering .ok [n + 1] none })

/-- The snapshot commands (R164, R165, R166): SNAPSHOT copies the table, the round number, V and Q into a FREE buffer and answers PENDING on a
LOADED one; READ_ENTRY answers the entry at the cursor, which advances only on whole delivery, or EMPTY; DISCARD_SNAPSHOT frees the
buffer. -/
def Obligations.SnapshotCommandsAnswered : Prop :=
  ∀ s : State, s.hp.phase = .command → s.hp.config ≠ none →
    (s.hp.snapshot = none →
      let copy : Snapshot :=
        { table := s.vu.table, round := s.lu.roundNumber, voterCount := s.vu.voterCount, quorum := s.vu.quorum }
      let hp := { s.hp with snapshot := some copy, cursor := 0 }
      exec .snapshot s = .next { s with
        hp := hp.answering .ok [highByte s.lu.roundNumber, lowByte s.lu.roundNumber] none } ∧
      exec .readEntry s = .next { s with hp := s.hp.answering .empty [] none }) ∧
    (∀ c, s.hp.snapshot = some c →
      exec .snapshot s = .next { s with hp := s.hp.answering .pending [] none } ∧
      exec .readEntry s = .next { s with hp := s.hp.answering .ok (c.entryRecord s.hp.cursor) (some .entry) }) ∧
    exec .discardSnapshot s =
      .next { s with hp := { s.hp with snapshot := none, cursor := 0 }.answering .ok [] none }

/-! ### The event queue -/

/-- The class of every event kind (R157, section 9.4), what the enables hold (R148, R157, R171), and that a post of a class that is not
enabled changes nothing while one that finds room and no loss joins the tail with the round number of the moment (R156, R158, R163). -/
def Obligations.PostsByClass : Prop :=
  (∀ (own p : Addr) (i j : Byte) (n : Nat) (q : BitVec 3) (f : BitVec 4) (w x : Word16) (v : AddrSet) (c : SuspectCause)
      (l : LeftReason) (jf : JoinFailure) (ae : AttemptEnd) (wy : WayOfEntry),
    (∀ e ∈ [Event.joinDone i, .joinFailed jf, .promptWarning i, .promptLapsed i, .inputChange f, .attemptStart n,
      .attemptEnd ae n, .hostHeld n, .hostReleased, .hostResetSeen], e.klass own = some .self) ∧
    (∀ e ∈ [Event.lineSynced wy, .lineStuck, .lineReleased, .duplicateAddress, .roundResync w x], e.klass own = some .line) ∧
    (∀ e ∈ [Event.suspected p c, .cleared p, .condemned p n, .split p n],
      e.klass own = if p = own then some .self else some .peer) ∧
    (∀ e ∈ [Event.joined p i, .left p l, .lost p, .heldSeen p q, .restarted p i j, .stranger p i, .condition p f, .service p w,
      .profileMismatch p w, .viewMismatch p v], e.klass own = some .peer)) ∧
  (∀ (s : State) (k : EventClass), s.hp.config = none → s.hp.enabled (some k) = true) ∧
  (∀ (s : State) (r : ConfigRecord), s.hp.config = some r →
    s.hp.enabled (some .peer) = r.enables.getLsbD 0 ∧ s.hp.enabled (some .self) = r.enables.getLsbD 1 ∧
    s.hp.enabled (some .line) = r.enables.getLsbD 2) ∧
  (∀ (s : State) (e : Event), s.hp.enabled (e.klass s.hp.address) = false → s.post e = s) ∧
  (∀ (s : State) (e : Event), s.hp.enabled (e.klass s.hp.address) = true → s.hp.queue.length < 32 → s.hp.lost = 0 →
    s.post e = { s with hp := { s.hp with
      queue := s.hp.queue ++ [{ round := s.lu.roundNumber, event := e }], int := true } })

/-- R159: an enabled post to a queue of 32 records is discarded, and the lost count rises by 1 up to 255; the queue is unchanged; each post of a
burst counts on its own, so two add 2, as the CONDEMNED and ATTEMPT_START of an own condemnation do. -/
def Obligations.FullQueueCountsLoss : Prop :=
  ∀ s : State, s.hp.queue.length = 32 → s.hp.lost ≤ 255 →
    (∀ e : Event, s.hp.enabled (e.klass s.hp.address) = true →
      (s.hp.lost < 255 → s.post e = { s with hp := { s.hp with lost := s.hp.lost + 1 } }) ∧
      (s.hp.lost = 255 → s.post e = s)) ∧
    (∀ e f : Event, s.hp.enabled (e.klass s.hp.address) = true → s.hp.enabled (f.klass s.hp.address) = true →
      s.hp.lost ≤ 253 → (s.post e).post f = { s with hp := { s.hp with lost := s.hp.lost + 2 } }) ∧
    (s.hp.enabled (some .self) = true → s.hp.lost ≤ 253 →
      s.condemnOwn.hp = { s.hp with lost := s.hp.lost + 2 })

/-- R160: with losses counted, an enabled post that finds room first queues the loss record: kind LOST, no subject, the lost count as
detail, the round number of the post. With room for two the new record follows and the count is 0; with room for one the new record is
discarded and the count is 1. A discarded class queues no loss record, and a queue that only regains room keeps its count. -/
def Obligations.LossRecordQueued : Prop :=
  (∀ (s : State) (e : Event), 1 ≤ s.hp.lost → s.hp.lost ≤ 255 →
    let loss : EventRecord := { round := s.lu.roundNumber, event := .lossRecord s.hp.lost }
    (s.hp.enabled (e.klass s.hp.address) = true → s.hp.queue.length + 2 ≤ 32 →
      s.post e = { s with hp := { s.hp with
        queue := s.hp.queue ++ [loss, { round := s.lu.roundNumber, event := e }], lost := 0, int := true } }) ∧
    (s.hp.enabled (e.klass s.hp.address) = true → s.hp.queue.length + 1 = 32 →
      s.post e = { s with hp := { s.hp with queue := s.hp.queue ++ [loss], lost := 1, int := true } }) ∧
    (s.hp.enabled (e.klass s.hp.address) = false → s.post e = s) ∧
    loss.event.code = (Event.lost 0).code ∧ loss.event.subject = none ∧ loss.event.detail.head? = some (BitVec.ofNat 8 s.hp.lost)) ∧
  (∀ s t : State, exec .responseDelivered s = .next t → t.hp.lost = s.hp.lost ∧ ∀ r ∈ t.hp.queue, r ∈ s.hp.queue) ∧
  (∀ s : State, s.hp.lost ≤ 255 → byteAt s.statusRecord 17 = s.hp.lost)

/-! ### The rounds -/

/-- A round begins at a station in SYNCED or ACTIVE (R5, R30, R31, R73, R74, R75, R79, R88, R113): in the rest, another station's mark and the
own round timer's expiry each begin one. `voters` is the set of members of that moment. A WAITING Reset Unit counts the round, here with more
than one left. Inside the fixed part neither event has an effect (R72, R73). The MODEL's own: the sampled field is empty after the beginning (log entry
11, DEDUCED), the drive set is kept (log entry 21), a collision that still waited for the line is dropped (log entry 23), and the expiry as a command is taken whatever the timer shows (log entry 5). -/
def Obligations.RoundBegins : Prop :=
  ∀ (s : State) (voters : AddrSet), s.lu.state = .synced ∨ s.lu.state = .active →
    (∀ a : Addr, inSet a voters = (s.entry a).state.isMember) →
    (s.lu.pos ≠ .rest → exec .roundMark s = .next s ∧ exec .roundTimerExpiry s = .next s) ∧
    (s.lu.pos = .rest → (s.ru.state = .waiting → 1 < s.ru.recovery) →
      let ru := if s.ru.state = .waiting then { s.ru with recovery := s.ru.recovery - 1 } else s.ru
      exec .roundMark s = .next { s.roundBegun .nothing false voters with ru := ru } ∧
      exec .roundTimerExpiry s = .next { s.roundBegun .mark false voters with ru := ru })

/-- The recovery window ends (R113, R114, R115, R4): at the round beginning that brings the count to 0 the next attempt starts below the reset
limit; at it the Reset Unit is HELD, HOST_HELD is posted and the RECOVERING own entry becomes ABSENT. The round is begun by another station's mark, by
the own round timer (R74), or by the mark with which a searching station enters SYNCED, observed or its own (R78); there the record stands before or
after LINE_SYNCED, which no rule orders (log entry 6). The MODEL's own: RECOVERY_WINDOW_END as a command of its own ends the window without beginning a
round (log entry 7), a round beginning empties the sampled field (log entry 11, DEDUCED), keeps the drive set (log entry 21) and drops a waiting collision
(log entry 23), and an expiry as a command is taken whatever its timer
shows (log entry 5). -/
def Obligations.RecoveryWindowEnds : Prop :=
  ∀ (s : State) (voters : AddrSet), s.ru.state = .waiting → s.ru.recovery = 1 →
    (∀ a : Addr, inSet a voters = (s.entry a).state.isMember) →
    let online := s.lu.state = .synced ∨ s.lu.state = .active
    let ends (close : State → State) (e : Event) : Prop :=
      let closed (b : State) (posts : List Event) : State := { close b with hp := (b.postAll posts).hp }
      let either (c : Instr) (b : State) (way : WayOfEntry) : Prop :=
        exec c s = .next (closed b [e, .lineSynced way]) ∨ exec c s = .next (closed b [.lineSynced way, e])
      (online → s.lu.pos = .rest →
        exec .roundMark s = .next (closed (s.roundBegun .nothing false voters) [e]) ∧
        exec .roundTimerExpiry s = .next (closed (s.roundBegun .mark false voters) [e])) ∧
      (s.lu.state = .listening → s.lu.waitRelease = false →
        either .roundMark (s.roundBegun .nothing true voters) .markObserved ∧
        either .listenWindowExpiry (s.roundBegun .mark true voters) .ownMark) ∧
      (online → exec .recoveryWindowEnd s = .next (closed s [e]))
    (s.ru.attempt < s.resetLimit → ends (fun b => { b with ru := s.attemptStarted }) (.attemptStart (s.ru.attempt + 1))) ∧
    (s.ru.attempt = s.resetLimit → s.own.state = .recovering → inSet s.hp.address s.vu.hostAccused = false →
      ends (fun b => { b with
          ru := { s.ru with state := .held, recovery := 0, rstout := true }
          vu := (b.setEntry s.hp.address s.own.gone).vu })
        (.hostHeld s.ru.attempt))

/-- A searching station enters SYNCED or ACTIVE with a mark that it observes or, its listen window over, drives; that mark begins its first
round and LINE_SYNCED carries the round number set for it (R75, R77, R78, R79, R88, R89); the entry with one recovery round left is
RecoveryWindowEnds'. While it waits for release or is DETACHED or BLOCKED no mark is taken and no window runs out (R73, R76, R87); the round timer runs in
SYNCED and ACTIVE alone and the listen window during the search alone, so that elsewhere neither runs out (R72, R77, R78; such a command changes nothing,
log entry 3). The MODEL's own: the sampled field is empty after the beginning (log entry 11, DEDUCED), the drive set is kept (log entry 21), and the expiry as a command is taken whatever the window
shows (log entry 5). -/
def Obligations.SearchingStationSynced : Prop :=
  ∀ (s : State) (voters : AddrSet), (∀ a : Addr, inSet a voters = (s.entry a).state.isMember) →
    (s.lu.state = .listening → s.lu.waitRelease = false → (s.ru.state = .waiting → 1 < s.ru.recovery) →
      let ru := if s.ru.state = .waiting then { s.ru with recovery := s.ru.recovery - 1 } else s.ru
      exec .roundMark s =
        .next { (s.roundBegun .nothing true voters).post (.lineSynced .markObserved) with ru := ru } ∧
      exec .listenWindowExpiry s =
        .next { (s.roundBegun .mark true voters).post (.lineSynced .ownMark) with ru := ru }) ∧
    (s.lu.state = .detached ∨ s.lu.state = .blocked →
      exec .roundMark s = .next s ∧ exec .roundTimerExpiry s = .next s ∧ exec .listenWindowExpiry s = .next s) ∧
    (s.lu.state = .listening → s.lu.waitRelease = true →
      exec .roundMark s = .next { s with lu := { s.lu with recessiveTime := 0 } } ∧ exec .listenWindowExpiry s = .next s) ∧
    (s.lu.state = .listening → exec .roundTimerExpiry s = .next s) ∧
    (s.lu.state = .synced ∨ s.lu.state = .active → exec .listenWindowExpiry s = .next s)

/-- The start of the own slot (R2, R23, R25, R26, R29, R30, R51, R80, R121): the reported fields are recorded, the own accusation set `accused`
is built, a MEMBER that accuses itself becomes SUSPECT with cause SELF, a voter's accusations are counted, the frame is composed, and in ACTIVE it
is sent. Nothing else changes. Where no round passes there is no own slot (R22, R76), and one own slot is all a round has (R80): there the command changes nothing
(log entries 3 and 4). -/
def Obligations.OwnSlotComposed : Prop :=
  ∀ s : State,
    let ready (n : Nat) := (s.lu.state = .synced ∨ s.lu.state = .active) ∧ s.lu.pos = .slots n ∧ n ≤ s.hp.address.val
    ((∀ n, ¬ ready n) → exec .ownSlotStart s = .next s) ∧
    ∀ (n : Nat) (i : Byte) (d : Word16) (accused : AddrSet), ready n → s.own.incarnation = some i → s.hp.digest = some d →
    (∀ j : Addr, inSet j accused = true ↔ s.own.state.isMember = true ∧
      if j = s.hp.address then s.ownHostState = .lapsed ∨ s.ownHostState = .fault
      else (s.entry j).state.isMember = true ∧ (s.missLimit ≤ (s.entry j).missCount ∨ (s.entry j).hostState = .lapsed ∨
        (s.entry j).hostState = .fault ∨ inSet j s.vu.hostAccused = true)) →
    let self := s.own.state = .member ∧ inSet s.hp.address accused = true
    let e : Entry := { s.own with
      hostState := s.ownHostState, attempt := BitVec.ofNat 3 s.ru.attempt, flags := s.condFlags, service := s.cm.service,
      state := if self then .suspect else s.own.state, admission := if self then none else s.own.admission }
    let frame : OwnFrame := {
      kind := if s.vu.leavePending = true then .leave else if s.own.state = .joining then .join else .announce
      body := { incarnation := i, round := s.lu.roundNumber, digest := d, hostCode := s.ownHostState.code,
                attempt := BitVec.ofNat 3 s.ru.attempt, flags := s.condFlags, service := s.cm.service, view := s.vu.voters,
                accuses := accused } }
    ∃ tally : Vector AddrSet 16,
      (∀ j a : Addr, inSet a tally[j] =
        (inSet a s.vu.tally[j] || (a == s.hp.address && inSet a s.vu.voters && inSet j accused))) ∧
      exec .ownSlotStart s = .next { s with
        lu := { s.lu with pos := .ownSlot, ownFrame := some frame,
                          driving := if s.lu.state = .active then .frame else .nothing }
        vu := { (s.setEntry s.hp.address e).vu with ownAccusations := accused, tally := tally }
        hp := if self then (s.post (.suspected s.hp.address .self)).hp else s.hp }

/-- The host state of the own frame, the condition flags and the failing condition (R105, R121, R126, R128, R171): before configuration
no flag is asserted; then an active-high flag follows its level and an active-low flag its opposite. -/
def Obligations.OwnHostStatePriority : Prop :=
  ∀ s : State,
    (s.ru.state = .held → s.ownHostState = .held) ∧
    (s.ru.state = .pulsing ∨ s.ru.state = .waiting → s.ownHostState = .resetting) ∧
    (s.ru.state = .idle →
      (s.pt.state = .lapsed → s.ownHostState = .lapsed) ∧
      (s.pt.state ≠ .lapsed → s.failing = true → s.ownHostState = .fault) ∧
      (s.failing = false → (s.pt.state = .warned → s.ownHostState = .warned) ∧
        (s.pt.state = .running → s.ownHostState = .running) ∧ (s.pt.state = .disarmed → s.ownHostState = .dormant))) ∧
    (s.hp.config = none → s.condFlags = 0 ∧ s.failing = false) ∧
    (∀ r, s.hp.config = some r →
      (∀ n, n < 4 → (s.condFlags.getLsbD n = true ↔ (s.cm.levels.getLsbD n = true ↔ r.polarity.getLsbD n = false))) ∧
      (s.failing = true ↔ ∃ n, n < 4 ∧ r.failMask.getLsbD n = true ∧ s.condFlags.getLsbD n = true))

/-- The end of the own slot (R2, R63, R80, R84): a frame sent to its end bit went out whole, its round number is recorded as last heard round and
a LEAVE frame is no longer pending; one that met a collision waits for the line; a frame not sent leaves nothing. The MODEL's own: the round goes on while the
collision waits (log entry 23), and outside the own slot the event has no effect (log entry 3). -/
def Obligations.OwnSlotEnds : Prop :=
  ∀ s : State,
    (¬ ((s.lu.state = .synced ∨ s.lu.state = .active) ∧ s.lu.pos = .ownSlot) → ∀ clean, exec (.ownSlotEnd clean) s = .next s) ∧
    (s.lu.state = .synced ∨ s.lu.state = .active → s.lu.pos = .ownSlot →
      let lu := { s.lu with pos := .slots (s.hp.address.val + 1), driving := .nothing }
      (∀ fr, s.lu.driving = .frame → s.lu.ownFrame = some fr →
        exec (.ownSlotEnd true) s = .next { s with
          lu := { lu with ownWhole := true }
          vu := { (s.setEntry s.hp.address { s.own with lastHeard := some fr.body.round }).vu with
            leavePending := if fr.kind = .leave then false else s.vu.leavePending } }) ∧
      (s.lu.driving = .frame →
        exec (.ownSlotEnd false) s = .next { s with lu := { lu with collisionPending := true } }) ∧
      (s.lu.driving ≠ .frame → ∀ clean, exec (.ownSlotEnd clean) s = .next { s with lu := lu }))

/-! ### The slots of the peers -/

/-- A peer's slot without a frame (R81, R82, R83): SILENT when the line stayed recessive; GARBLED, and counted in the garbled-slot total up to
65535, when the start bit did not fall in its window, when the bits are no stuffed frame, or when the sixteen bytes are no frame of that
sender: a frame of another address is. Where the slot cannot close nothing changes: in LISTENING, DETACHED and BLOCKED there is
no slot outcome (R22, R76), and a station does not receive its own slot (R80); that a slot passed over or closed before is not closed again is the MODEL's
(log entries 3 and 4). That SLOT_CLOSE with bits that are a frame of the slot's address acts as that frame's command is the MODEL's choice (log entry 16). -/
def Obligations.PeerSlotWithoutFrame : Prop :=
  ∀ (s : State) (k : Addr),
    (¬ SlotOpen s k → ∀ r : SlotReading, exec (.slotClose k r) s = .next s) ∧
    (SlotOpen s k →
    let garbled : State := { s with lu := { s.lu.closed k .garbled with
      garbledTotal := if s.lu.garbledTotal < 65535 then s.lu.garbledTotal + 1 else 65535 } }
    exec (.slotClose k .silent) s = .next { s with lu := s.lu.closed k .silent } ∧
    exec (.slotClose k .badStart) s = .next garbled ∧
    (∀ bits, bytesOfLine bits = none → exec (.slotClose k (.levels bits)) s = .next garbled) ∧
    (∀ bits bytes, bytesOfLine bits = some bytes → frameOfBytes k bytes = none →
      exec (.slotClose k (.levels bits)) s = .next garbled) ∧
    (∀ (kind : FrameKind) (j : Addr) (f : FrameBody), j ≠ k →
      exec (.slotClose k (.levels (lineBits (frameBytes kind j f)))) s = .next garbled) ∧
    (∀ f : FrameBody,
      exec (.slotClose k (.levels (lineBits (frameBytes .announce k f)))) s = exec (.announceFrame k f) s ∧
      exec (.slotClose k (.levels (lineBits (frameBytes .join k f)))) s = exec (.joinFrame k f) s ∧
      exec (.slotClose k (.levels (lineBits (frameBytes .leave k f)))) s = exec (.leaveFrame k f) s))

/-- A frame of another profile, and one of the own profile with another round number (R6, R19, R20, R54, R81, R82, R90), whatever its kind. Where the
slot cannot close, no frame is received and nothing changes: in LISTENING, DETACHED and BLOCKED (R22, R76), in the own slot (R80), and, the MODEL's, in a slot
passed over or closed before (log entries 3 and 4). That the three frame commands carry such frames too, and end as FOREIGN or OUT_OF_STEP, is the MODEL's
choice (log entry 16). -/
def Obligations.ForeignAndOutOfStepFrames : Prop :=
  ∀ (s : State) (k : Addr) (f : FrameBody) (c : Instr), c ∈ [Instr.announceFrame k f, .joinFrame k f, .leaveFrame k f] →
    (¬ SlotOpen s k → exec c s = .next s) ∧
    (∀ d : Word16, SlotOpen s k → s.hp.digest = some d →
      (d ≠ f.digest →
        exec c s = .next { s with
          lu := s.lu.closed k .foreign
          vu := { (s.setEntry k { s.entry k with mismatchSeen := true }).vu with
            foreignMark := if s.own.state = .joining then true else s.vu.foreignMark }
          hp := if (s.entry k).mismatchSeen = true then s.hp else (s.post (.profileMismatch k f.digest)).hp }) ∧
      (d = f.digest → s.lu.adoptOpen = false → f.round ≠ s.lu.roundNumber →
        exec c s = .next { s with
          lu := { s.lu.closed k (.outOfStep f.round) with outOfStep := s.lu.outOfStep + 1 }
          vu := (s.setEntry k { s.entry k with mismatchSeen := false }).vu }))

/-- Observer adoption (R6, R7, R8, R9, R17, R20, R30, R82, R89): while the own entry is ABSENT each frame sets its sender's entry and posts
nothing; an ANNOUNCE that left the entry present is compared with the voter set and counted, when its sender is a voter. -/
def Obligations.ObserverAdoptsFrame : Prop :=
  ∀ (s : State) (k : Addr) (f : FrameBody), InStep s k f → s.own.state = .absent → s.vu.hostAccused = 0 →
    let old := (s.entry k).state
    let e := (s.heardEntry k f).reported f
    let absent : Entry := if old = .absent then { e with admission := none } else e.gone
    let put (x : Entry) : State := { s with lu := s.lu.heard k f, vu := (s.setEntry k x).vu }
    exec (.joinFrame k f) s = .next (put { e with
      state := .joining, admission := if old = .joining then e.admission else some s.admitRounds }) ∧
    exec (.leaveFrame k f) s = .next (put absent) ∧
    (e.hostState = .held → exec (.announceFrame k f) s = .next (put absent)) ∧
    (e.hostState ≠ .held → e.hostState ≠ .resetting → old = .recovering →
      exec (.announceFrame k f) s = .next (put absent)) ∧
    (e.hostState = .resetting ∨ e.hostState ≠ .held ∧ old ≠ .recovering →
      let x : Entry := { e with
        state := if e.hostState = .resetting then .recovering else .member
        admission := none
        splits := if e.hostState = .resetting ∧ old ≠ .recovering then 0 else e.splits
        viewAgrees := if inSet k s.vu.voters then f.view == s.vu.voters else e.viewAgrees }
      ∃ tally : Vector AddrSet 16,
        (∀ j a : Addr, inSet a tally[j] = (inSet a s.vu.tally[j] || (a == k && inSet a s.vu.voters && inSet j f.accuses))) ∧
        exec (.announceFrame k f) s = .next { s with
          lu := s.lu.heard k f, vu := { (s.setEntry k x).vu with tally := tally } })

/-- An ANNOUNCE frame from an ABSENT entry under the protocol rules (R16, R117, R6): a stranger is recorded in part and reported once; the held
announcement is recorded in part and posts nothing. -/
def Obligations.AnnounceFromAbsentEntry : Prop :=
  ∀ (s : State) (k : Addr) (f : FrameBody), InStep s k f → s.own.state ≠ .absent → (s.entry k).state = .absent →
    let u : State := { s with lu := s.lu.heard k f }
    let e : Entry := { s.heardEntry k f with incarnation := some f.incarnation }
    (HostState.ofCode f.hostCode ≠ .held →
      exec (.announceFrame k f) s = .next { u with
        vu := (s.setEntry k { e with strangerReported := true }).vu
        hp := if (s.entry k).strangerReported = true then s.hp else (u.post (.stranger k f.incarnation)).hp }) ∧
    (HostState.ofCode f.hostCode = .held →
      exec (.announceFrame k f) s = .next { u with
        vu := (s.setEntry k { e with hostState := .held, attempt := f.attempt }).vu })

/-- An ANNOUNCE frame with another incarnation ends the entry's life with RESTARTED, and a held announcement with the recorded one ends it with
HELD_SEEN (R4, R14, R15, R44, R57, R117). Nothing else of the frame is used. -/
def Obligations.RestartedOrHeldEntryEnds : Prop :=
  ∀ (s : State) (k : Addr) (f : FrameBody) (i : Byte), InStep s k f → s.own.state ≠ .absent → (s.entry k).state ≠ .absent →
    (s.entry k).incarnation = some i →
    let u : State := { s with lu := s.lu.heard k f }
    let e := (s.heardEntry k f).gone
    let accused := s.vu.hostAccused &&& ~~~(BitVec.twoPow 16 k.val)
    (i ≠ f.incarnation →
      exec (.announceFrame k f) s = .next { u with
        vu := { (s.setEntry k { e with incarnation := some f.incarnation }).vu with hostAccused := accused }
        hp := (u.post (.restarted k i f.incarnation)).hp }) ∧
    (i = f.incarnation → HostState.ofCode f.hostCode = .held →
      exec (.announceFrame k f) s = .next { u with
        vu := { (s.setEntry k (e.reported f)).vu with hostAccused := accused }
        hp := (u.post (.heldSeen k f.attempt)).hp })

/-- An ANNOUNCE frame with the recorded incarnation from a JOINING entry (R18, R27, R57): RESETTING ends it with nothing posted; any other state but
HELD completes the admission, JOINED is posted, and evidence already reported makes the entry SUSPECT at once. -/
def Obligations.JoinerAnnounces : Prop :=
  ∀ (s : State) (k : Addr) (f : FrameBody), InStep s k f → s.own.state ≠ .absent → (s.entry k).state = .joining →
    (s.entry k).incarnation = some f.incarnation → inSet k s.vu.hostAccused = false → 1 ≤ s.missLimit →
    let u : State := { s with lu := s.lu.heard k f }
    let e := (s.heardEntry k f).reported f
    (e.hostState = .resetting →
      exec (.announceFrame k f) s = .next { u with vu := (s.setEntry k e.gone).vu }) ∧
    (e.hostState ≠ .resetting → e.hostState ≠ .held →
      let evidence := s.own.state.isMember = true ∧ (e.hostState = .lapsed ∨ e.hostState = .fault)
      exec (.announceFrame k f) s = .next { u with
        vu := (s.setEntry k { e with state := if evidence then .suspect else .member, admission := none }).vu
        hp := (u.postAll ([.joined k f.incarnation] ++ eventIf evidence (.suspected k .evidence))).hp })

/-- An ANNOUNCE frame with the recorded incarnation from a MEMBER, SUSPECT or RECOVERING entry that does not report HELD (R6, R7, R17, R18, R23, R27, R28,
R30): the reports with CONDITION and SERVICE, the evidence test, view agreement with VIEW_MISMATCH, the suspicion of every MEMBER that a voter accuses,
in ascending order, and the count of the accusers. -/
def Obligations.MemberAnnounces : Prop :=
  ∀ (s : State) (k : Addr) (f : FrameBody), InStep s k f → s.own.state ≠ .absent →
    (s.entry k).state.isMember = true ∨ (s.entry k).state = .recovering →
    (s.entry k).incarnation = some f.incarnation → HostState.ofCode f.hostCode ≠ .held → 1 ≤ s.missLimit →
    let u : State := { s with lu := s.lu.heard k f }
    let old := s.entry k
    let e := (s.heardEntry k f).reported f
    let voter := inSet k s.vu.voters = true
    let evidence := old.state = .member ∧ s.own.state.isMember = true ∧
      (e.hostState = .lapsed ∨ e.hostState = .fault ∨ inSet k s.vu.hostAccused = true)
    let accused (j : Addr) := voter ∧ inSet j f.accuses = true ∧ (s.entry j).state = .member ∧ ¬ (j = k ∧ evidence)
    let agrees : Bool := f.view == s.vu.voters
    ∃ t, exec (.announceFrame k f) s = .next t ∧ t.lu = u.lu ∧ t.pt = s.pt ∧ t.ru = s.ru ∧ t.cm = s.cm ∧
      t.pending = s.pending ∧ t.ticks = s.ticks ∧ t.vu = { s.vu with table := t.vu.table, tally := t.vu.tally } ∧
      t.entry k = { e with
        state := if evidence ∨ accused k then .suspect else old.state
        admission := if evidence ∨ accused k then none else old.admission
        viewAgrees := if voter then agrees else old.viewAgrees } ∧
      (∀ j : Addr, j ≠ k → t.entry j =
        if accused j then { s.entry j with state := .suspect, admission := none } else s.entry j) ∧
      (∀ j a : Addr, inSet a t.vu.tally[j] =
        (inSet a s.vu.tally[j] || (a == k && inSet a s.vu.voters && inSet j f.accuses))) ∧
      t.hp = (u.postAll (eventIf (old.flags ≠ f.flags) (.condition k f.flags) ++
        eventIf (old.service ≠ f.service) (.service k f.service) ++ eventIf evidence (.suspected k .evidence) ++
        eventIf (voter ∧ old.viewAgrees = true ∧ agrees = false) (.viewMismatch k f.view) ++
        (allAddrs.filter (fun j => decide (accused j))).map (fun j => .suspected j .accused))).hp

/-- A JOIN frame under the protocol rules (R18, R27, R44, R56, R58): an admission begins or begins again, the count falls by one with every frame,
the last one makes a MEMBER, and a member's JOIN frame is a restart. The reports are compared (R7, R18, R134) except where the frame takes the entry out of
ABSENT or makes it a MEMBER. The MODEL's reading (log entry 13, DEDUCED): R56's 'nothing is posted' does not hold back the CONDITION and SERVICE of R18 where
a RECOVERING entry joins or a JOINING entry begins again, and a restart posts them before RESTARTED. -/
def Obligations.JoinFrameApplied : Prop :=
  ∀ (s : State) (k : Addr) (f : FrameBody), InStep s k f → s.own.state ≠ .absent →
    let u : State := { s with lu := s.lu.heard k f }
    let old := s.entry k
    let e := (s.heardEntry k f).reported f
    let start : Entry := { e with state := .joining, admission := some s.admitRounds }
    let changes := eventIf (old.flags ≠ f.flags) (.condition k f.flags) ++ eventIf (old.service ≠ f.service) (.service k f.service)
    (old.state = .absent ∨ old.state = .recovering ∨
        (old.state = .joining ∧ ∃ i, old.incarnation = some i ∧ i ≠ f.incarnation) →
      inSet k s.vu.hostAccused = false →
      exec (.joinFrame k f) s = .next { u with
        vu := (s.setEntry k start).vu
        hp := (u.postAll (if old.state = .absent then [] else changes)).hp }) ∧
    (∀ n, old.state = .joining → old.incarnation = some f.incarnation → old.admission = some n →
      (1 < n → exec (.joinFrame k f) s = .next { u with
        vu := (s.setEntry k { e with admission := some (n - 1) }).vu
        hp := (u.postAll changes).hp }) ∧
      (n = 1 → inSet k s.vu.hostAccused = false → 1 ≤ s.missLimit →
        let evidence := s.own.state.isMember = true ∧ (e.hostState = .lapsed ∨ e.hostState = .fault)
        exec (.joinFrame k f) s = .next { u with
          vu := (s.setEntry k { e with state := if evidence then .suspect else .member, admission := none }).vu
          hp := (u.postAll ([.joined k f.incarnation] ++ eventIf evidence (.suspected k .evidence))).hp })) ∧
    (∀ i, old.state = .member ∨ old.state = .suspect → old.incarnation = some i →
      exec (.joinFrame k f) s = .next { u with
        vu := { (s.setEntry k { start with splits := 0 }).vu with
          hostAccused := s.vu.hostAccused &&& ~~~(BitVec.twoPow 16 k.val) }
        hp := (u.postAll (changes ++ [.restarted k i f.incarnation])).hp })

/-- A LEAVE frame under the protocol rules makes its sender's entry ABSENT, whatever incarnation it carries, and posts LEFT unless it was ABSENT; the
reported fields are recorded in both cases (R4, R44, R64). -/
def Obligations.LeaveFrameApplied : Prop :=
  ∀ (s : State) (k : Addr) (f : FrameBody), InStep s k f → s.own.state ≠ .absent →
    let u : State := { s with lu := s.lu.heard k f }
    let e := (s.heardEntry k f).reported f
    ((s.entry k).state ≠ .absent →
      exec (.leaveFrame k f) s = .next { u with
        vu := { (s.setEntry k e.gone).vu with hostAccused := s.vu.hostAccused &&& ~~~(BitVec.twoPow 16 k.val) }
        hp := (u.post (.left k .leave)).hp }) ∧
    ((s.entry k).state = .absent → (s.entry k).admission = none → inSet k s.vu.hostAccused = false →
      exec (.leaveFrame k f) s = .next { u with vu := (s.setEntry k e).vu })

/-! ### The verdict and the round end -/

/-- The start of the verdict field (R33, R34, R91): the station drives only as a voter that is still a member, ACTIVE and not abstaining; it drives
CONDEMN for each SUSPECT peer whose accusers reach Q and CLEAR for the others, and nothing at its own address. Where no round passes there
is no field (R22, R76), and the field comes once in a round, after the own slot (R71): elsewhere the command changes nothing (log entries 3 and 4). That the
station drives while a collision waits for the line too is the MODEL's choice (log entry 23). -/
def Obligations.VerdictFieldDriven : Prop :=
  ∀ s : State,
    let ready (n : Nat) := (s.lu.state = .synced ∨ s.lu.state = .active) ∧ s.lu.pos = .slots n ∧ s.hp.address.val < n
    ((∀ n, ¬ ready n) → exec .verdictFieldStart s = .next s) ∧
    ∀ (n : Nat) (condemn clear : AddrSet), ready n →
    let drives := inSet s.hp.address s.vu.voters = true ∧ (s.own.state = .member ∨ s.own.state = .suspect) ∧
      s.lu.state = .active ∧ ¬ s.lu.inStep < s.lu.outOfStep
    (∀ j : Addr, inSet j condemn = true ↔ drives ∧ j ≠ s.hp.address ∧ (s.entry j).state = .suspect ∧
      s.vu.quorum ≤ setSize s.vu.tally[j]) →
    (∀ j : Addr, inSet j clear = true ↔ drives ∧ j ≠ s.hp.address ∧ (s.entry j).state = .suspect ∧
      setSize s.vu.tally[j] < s.vu.quorum) →
    exec .verdictFieldStart s = .next { s with lu := { s.lu with
      pos := .verdict, condemnDrive := condemn, clearDrive := clear,
      driving := if condemn = 0 ∧ clear = 0 then .nothing else .verdict } }

/-- The resynchronisation check (R90): the numbers counted are those of the FRAME and OUT_OF_STEP outcomes and of an own frame that went out whole; in a
round with an OUT_OF_STEP outcome a number other than the own is taken over when more than half carry it, or exactly half with the other half carrying
the own, smaller number. The change posts ROUND_RESYNC with the new value as its round number; otherwise the number stands. -/
def Obligations.Resynchronised : Prop :=
  ∀ (s : State) (x : Word16),
    let numbers := s.lu.outcomes.filterMap (fun p => match p.2 with | .frame n => some n | .outOfStep n => some n | _ => none) ++
      (match s.lu.ownFrame with | some fr => if s.lu.ownWhole then [fr.body.round] else [] | none => [])
    (s.lu.resyncNumber = some x ↔
      (∃ p ∈ s.lu.outcomes, ∃ n, p.2 = .outOfStep n) ∧ x ≠ s.lu.roundNumber ∧
        (numbers.length < 2 * numbers.count x ∨
          (2 * numbers.count x = numbers.length ∧ 2 * numbers.count s.lu.roundNumber = numbers.length ∧
            s.lu.roundNumber.toNat < x.toNat))) ∧
    (s.lu.resyncNumber = some x →
      s.resync = { s with lu := { s.lu with roundNumber := x } }.post (.roundResync s.lu.roundNumber x)) ∧
    (s.lu.resyncNumber = none → s.resync = s)

/-- The miss accounting of one peer (R4, R10, R11, R12, R13, R27, R44): an ABSENT entry and one whose slot yielded a FRAME are left; otherwise the count
rises by one up to 7, and at the miss limit a RECOVERING entry is LOST, a JOINING one LEFT, and a MEMBER becomes SUSPECT at a station that is a
member. -/
def Obligations.MissAccounting : Prop :=
  ∀ (s : State) (j : Addr), j ≠ s.hp.address →
    let e : Entry := { s.entry j with missCount := min 7 ((s.entry j).missCount + 1) }
    let gone (ev : Event) : State := { s with
      vu := { (s.setEntry j e.gone).vu with hostAccused := s.vu.hostAccused &&& ~~~(BitVec.twoPow 16 j.val) }
      hp := (s.post ev).hp }
    ((s.entry j).state = .absent ∨ (∃ n, s.lu.outcomeOf j = .frame n) → s.accountMiss j = s) ∧
    ((s.entry j).state ≠ .absent → (∀ n, s.lu.outcomeOf j ≠ .frame n) →
      (e.missCount < s.missLimit ∨ e.state = .suspect ∨ (e.state = .member ∧ s.own.state.isMember = false) →
        s.accountMiss j = s.setEntry j e) ∧
      (s.missLimit ≤ e.missCount →
        (e.state = .recovering → s.accountMiss j = gone (.lost j)) ∧
        (e.state = .joining → s.accountMiss j = gone (.left j .silent)) ∧
        (e.state = .member → s.own.state.isMember = true →
          s.accountMiss j =
            { s.setEntry j { e with state := .suspect, admission := none } with hp := (s.post (.suspected j .evidence)).hp })))

/-- The outcome of one address at the round end (R36 to R42, R44): CONDEMN takes a member peer to RECOVERING and starts the own host's reset at the own
address; SPLIT makes or leaves a member SUSPECT and counts; every other outcome ends the run of splits, and a SUSPECT entry without accuser and evidence
is cleared by it. -/
def Obligations.VerdictApplied : Prop :=
  ∀ (s : State) (condemn clear : AddrSet) (j : Addr),
    let after := s.applyVerdict condemn clear j
    let e := s.entry j
    (inSet j condemn = true → inSet j clear = false →
      (e.state.isMember = false → after = s.setEntry j { e with splits := 0 }) ∧
      (e.state.isMember = true → j ≠ s.hp.address →
        after = { s with
          vu := { (s.setEntry j { e with state := .recovering, admission := none, missCount := 0, splits := 0 }).vu with
            hostAccused := s.vu.hostAccused &&& ~~~(BitVec.twoPow 16 j.val) }
          hp := (s.post (.condemned j (setSize s.vu.tally[j]))).hp }) ∧
      (e.state.isMember = true → j = s.hp.address →
        after = { s with
          vu := { (s.setEntry j { e with state := .recovering, admission := none, splits := 0 }).vu with hostAccused := 0 }
          pt := s.pt.disarmed, ru := s.attemptStarted, cm := { s.cm with service := 0 }
          hp := (s.postAll [.condemned j (setSize s.vu.tally[j]), .attemptStart (s.ru.attempt + 1)]).hp })) ∧
    (inSet j condemn = true → inSet j clear = true →
      (e.state.isMember = false → after = s) ∧
      (e.state.isMember = true →
        let n := if e.splits < 255 then e.splits + 1 else 255
        after = { s with
          vu := (s.setEntry j { e with
            state := .suspect, splits := n, admission := if e.state = .member then none else e.admission }).vu
          hp := (s.postAll (eventIf (e.state = .member) (.suspected j .split) ++ [.split j n])).hp })) ∧
    (inSet j condemn = false →
      let evidence := s.own.state.isMember = true ∧ (e.hostState = .lapsed ∨ e.hostState = .fault ∨
        (j ≠ s.hp.address ∧ (s.missLimit ≤ e.missCount ∨ inSet j s.vu.hostAccused = true)))
      (e.state = .suspect → setSize s.vu.tally[j] = 0 → ¬ evidence →
        after = { s with
          vu := (s.setEntry j { e with state := .member, admission := none, splits := 0 }).vu
          hp := (s.post (.cleared j)).hp }) ∧
      (e.state ≠ .suspect ∨ setSize s.vu.tally[j] ≠ 0 ∨ evidence → after = s.setEntry j { e with splits := 0 }))

/-- The admission step (R27, R54, R55, R97): only a JOINING own entry takes it; a FOREIGN outcome of the joining round fails the join; a JOIN frame that
went out whole counts, one of an earlier membership of the same round too, by R54's letter against R52 (the model's reading, log entry 22); the last one makes the own entry MEMBER, arms the Prompt Timer, posts JOIN_DONE and tests every MEMBER peer for evidence in ascending
order. -/
def Obligations.AdmissionStepTaken : Prop :=
  ∀ s : State,
    (s.own.state ≠ .joining → s.admissionStep = s) ∧
    (s.own.state = .joining → inSet s.hp.address s.vu.hostAccused = false →
      let whole := s.lu.ownWhole = true ∧ ∃ fr, s.lu.ownFrame = some fr ∧ fr.kind = .join
      (s.vu.foreignMark = true →
        s.admissionStep = { s with
          vu := (s.setEntry s.hp.address s.own.gone).vu, hp := (s.post (.joinFailed .profile)).hp }) ∧
      (s.vu.foreignMark = false → ¬ whole → s.admissionStep = s) ∧
      (∀ n, s.vu.foreignMark = false → whole → s.own.admission = some n → 1 < n →
        s.admissionStep = s.setEntry s.hp.address { s.own with admission := some (n - 1) }) ∧
      (∀ i, s.vu.foreignMark = false → whole → s.own.admission = some 1 → s.own.incarnation = some i →
        let evidence (j : Addr) := j ≠ s.hp.address ∧ (s.entry j).state = .member ∧
          (s.missLimit ≤ (s.entry j).missCount ∨ (s.entry j).hostState = .lapsed ∨ (s.entry j).hostState = .fault ∨
            inSet j s.vu.hostAccused = true)
        let t := s.admissionStep
        t = { s with
          vu := { s.vu with table := t.vu.table }
          pt := { state := .running, remaining := s.promptPeriod, expected := 1, warn := false }
          hp := (s.postAll (.joinDone i :: (allAddrs.filter (fun j => decide (evidence j))).map (fun j => .suspected j .evidence))).hp } ∧
        t.own = { s.own with state := .member, admission := none } ∧
        ∀ j : Addr, j ≠ s.hp.address →
          t.entry j = if evidence j then { s.entry j with state := .suspect, admission := none } else s.entry j))

/-- The round end (R36, R37, R38, R90, R91, R92, R119): the field sampled is what this station and the others drove; the check comes first, then the misses
unless the round was resynchronised, then the outcomes, each in ascending order, then the admission step. A requested release of a HELD host is carried out
at it, after that work, between the check and the work, or before the check (R119 leaves the order open, log entry 6): the Reset Unit is IDLE and HOST_RELEASED
is posted, in the last case with the round number before a resynchronisation. A condemned member peer is
RECOVERING afterwards; an own entry condemned as a member is RECOVERING and its host's first reset has begun. That evidence is judged at each address's own
moment, after the outcomes of lower addresses, is the model's reading (log entry 14, DEDUCED).A round ends once, after its verdict field, and
only where rounds pass (R22, R32, R76): elsewhere the command changes nothing (log entry 3). -/
def Obligations.RoundEndWork : Prop :=
  ∀ (s : State) (condemn clear : AddrSet),
    let ready := (s.lu.state = .synced ∨ s.lu.state = .active) ∧ s.lu.pos = .verdict
    (¬ ready → exec (.roundEnd condemn clear) s = .next s) ∧
    let due := s.ru.state = .held ∧ s.ru.releaseRequested = true
    (ready → (due → s.own.state = .absent) →
    let c := s.lu.condemnDrive ||| condemn
    let k := s.lu.clearDrive ||| clear
    let sampled : State := { s with lu := { s.lu with pos := .rest, driving := .nothing, condemnField := c, clearField := k } }
    let numbered := sampled.resync
    let work (x : State) : State :=
      (allAddrs.foldl (fun t j => t.applyVerdict c k j)
        (if sampled.lu.resyncNumber = none then allAddrs.foldl (fun t j => t.accountMiss j) x else x)).admissionStep
    let released (x : State) : State := { x with ru := s.ru.released, hp := (x.post .hostReleased).hp }
    ∃ t, exec (.roundEnd condemn clear) s = .next t ∧
      (¬ due → t = work numbered) ∧
      (due → t = released (work numbered) ∨ t = work (released numbered) ∨ t = work (released sampled).resync) ∧
      (due → t.ru = s.ru.released) ∧
      (∀ j : Addr, j ≠ s.hp.address → (s.entry j).state.isMember = true → inSet j c = true → inSet j k = false →
        t.entry j = { s.entry j with state := .recovering, admission := none, missCount := 0, splits := 0 } ∧
        inSet j t.vu.hostAccused = false) ∧
      (s.own.state.isMember = true → s.ru.state = .idle → s.ru.attempt = 0 → inSet s.hp.address c = true →
        inSet s.hp.address k = false →
        t.own = { s.own with state := .recovering, admission := none, splits := 0 } ∧ t.pt = s.pt.disarmed ∧
        t.vu.hostAccused = 0 ∧ t.cm.service = 0 ∧
        t.ru = { s.ru with state := .pulsing, attempt := 1, pulse := s.pulseMs, recovery := 0, confirmed := false, rstout := true }))

/-! ### Leaving the rounds -/

/-- A collision (R4, R60, R84, R85): the ACTIVE station that was sending its frame is BLOCKED, its own entry ABSENT, the timer disarmed, the accusations and
the pending LEAVE frame dropped; a JOIN_FAILED stands before DUPLICATE_ADDRESS. Where no own frame is being sent, and
no collision of one waits for the line, none is taken. The MODEL's own: the waiting collision is taken wherever in the round COLLISION comes (log entry 23), and the
drive set, the counts, the outcomes and the own frame stand as they were (log entries 21 and 24). -/
def Obligations.CollisionBlocks : Prop :=
  ∀ s : State,
    (¬ (s.lu.state = .active ∧ (s.lu.driving = .frame ∨ s.lu.collisionPending = true)) → exec .collision s = .next s) ∧
    (s.lu.state = .active → s.lu.driving = .frame ∨ s.lu.collisionPending = true →
      ¬ (s.ru.state = .held ∧ s.ru.releaseRequested = true) →
      let e : Entry := if s.own.state = .absent then { s.own with admission := none } else s.own.gone
      exec .collision s = .next { s with
        lu := s.lu.outOfRounds .blocked
        vu := { (s.setEntry s.hp.address e).vu with hostAccused := 0, leavePending := false, foreignMark := false }
        pt := s.pt.disarmed
        hp := (s.postAll (eventIf (s.own.state = .joining) (.joinFailed .duplicateAddress) ++ [.duplicateAddress])).hp })

/-- A stuck line and its release (R32, R54, R72, R76, R77, R86, R87): the station leaves the rounds for LISTENING, waiting for release, and keeps its table and
counts; every dominant reading restarts the measurement; the release starts the search with a listen window of two round periods. In DETACHED and BLOCKED the line
is not read, and only a station that waits for release measures (R87). The MODEL's own: the release as a command is taken whatever the measurement shows (log entry 5), it leaves the measurement at 0 (log entry 9), the
drive set, the counts of the round, its outcomes and the own frame stand as they were (log entries 21 and 24), and none of the three commands changes a searching station, which would have taken a stuck run as a mark before (log entry 3). -/
def Obligations.StuckAndReleasedLine : Prop :=
  ∀ s : State,
    (s.lu.state = .synced ∨ s.lu.state = .active → ¬ (s.ru.state = .held ∧ s.ru.releaseRequested = true) →
      exec .lineStuck s = .next { s with
        lu := { s.lu.outOfRounds .listening with waitRelease := true, recessiveTime := 0 }
        vu := { s.vu with foreignMark := false }
        hp := (s.post .lineStuck).hp }) ∧
    (s.lu.state = .listening → s.lu.waitRelease = true →
      let restarted : State := { s with lu := { s.lu with recessiveTime := 0 } }
      exec .releaseMeasurementRestart s = .next restarted ∧ exec .lineStuck s = .next restarted ∧
      exec .lineReleased s = .next { s with
        lu := { s.lu with waitRelease := false, recessiveTime := 0, listenWindow := some (2 * s.roundPeriodMs) }
        hp := (s.post .lineReleased).hp }) ∧
    (s.lu.state = .detached ∨ s.lu.state = .blocked ∨ (s.lu.state = .listening ∧ s.lu.waitRelease = false) →
      exec .releaseMeasurementRestart s = .next s ∧ exec .lineStuck s = .next s ∧ exec .lineReleased s = .next s) ∧
    (s.lu.state = .synced ∨ s.lu.state = .active →
      exec .releaseMeasurementRestart s = .next s ∧ exec .lineReleased s = .next s)

/-! ### The Prompt Timer, the Reset Unit and the Condition Monitor -/

/-- The counts run out (R98, R99, R100, R108, R111, R112): the warning and the lapse of the Prompt Timer, the end of the pulse with its confirmation, and the
confirmation within it. The recovery window ends neither before its last round nor where no rounds pass (R113). The MODEL's own: in any other state of the timer or of the Reset Unit the event has no effect (log entry 3), and as a command the warning,
the lapse and the pulse end are taken whatever the count shows and leave it at the event's value (log entry 5). -/
def Obligations.CountsRunOut : Prop :=
  ∀ s : State,
    (s.pt.state = .running → exec .promptWarning s = .next { s with
      pt := { s.pt with state := .warned, remaining := s.warningLead, warn := true }
      hp := (s.post (.promptWarning s.pt.expected)).hp }) ∧
    (s.pt.state ≠ .running → exec .promptWarning s = .next s) ∧
    (s.pt.state = .warned → exec .promptLapsed s = .next { s with
      pt := { s.pt with state := .lapsed, remaining := 0, warn := true }
      hp := (s.post (.promptLapsed s.pt.expected)).hp }) ∧
    (s.pt.state ≠ .warned → exec .promptLapsed s = .next s) ∧
    (s.ru.state = .pulsing →
      exec .pulseEnd s = .next { s with
        ru := { s.ru with state := .waiting, pulse := 0, recovery := s.recoveryRounds, rstout := false }
        hp := (s.post (.attemptEnd (if s.ru.confirmed = true then .confirmed else .unconfirmed) s.ru.attempt)).hp } ∧
      exec .pulseConfirmed s = .next { s with ru := { s.ru with confirmed := true, rstLatched := true } }) ∧
    (s.ru.state ≠ .pulsing → exec .pulseEnd s = .next s ∧ exec .pulseConfirmed s = .next s) ∧
    (s.ru.state ≠ .waiting ∨ 1 < s.ru.recovery ∨ (s.lu.state ≠ .synced ∧ s.lu.state ≠ .active) →
      exec .recoveryWindowEnd s = .next s)

/-- RSTSENSE (R62, R66, R120): an assertion that began in IDLE and was not taken before is an external host reset; HOST_RESET_SEEN is posted, and a JOINING,
MEMBER or SUSPECT own entry departs as by LEAVE. It is taken once until RSTSENSE is released. In any other reset state it has no such effect. -/
def Obligations.ExternalReset : Prop :=
  ∀ s : State,
    let ru := { s.ru with rstLatched := true }
    exec .rstsenseRelease s = .next { s with ru := { s.ru with rstLatched := false } } ∧
    (s.ru.state ≠ .idle → ∀ b, exec (.externalHostReset b) s = .next s) ∧
    (s.ru.state = .idle → s.ru.rstLatched = true → exec (.externalHostReset true) s = .next { s with ru := ru }) ∧
    (s.ru.state = .idle → exec (.externalHostReset false) s = .next { s with ru := ru }) ∧
    (s.ru.state = .idle → s.ru.rstLatched = false →
      (s.own.state = .absent →
        exec (.externalHostReset true) s = .next { s with ru := ru, hp := (s.post .hostResetSeen).hp }) ∧
      (s.own.state = .joining ∨ s.own.state = .member ∨ s.own.state = .suspect →
        exec (.externalHostReset true) s = .next { s with
          ru := ru
          pt := s.pt.disarmed
          cm := { s.cm with service := 0 }
          vu := { (s.setEntry s.hp.address s.own.gone).vu with hostAccused := 0, leavePending := true }
          hp := (s.postAll (.hostResetSeen :: eventIf (s.own.state = .joining) (.joinFailed .withdrawn))).hp }))

/-- MCLR (R118, R119): an assertion is taken once until MCLR has been released; in HELD, begun there, it requests the release while rounds pass and carries it
out at once otherwise; anywhere else it has no effect. A requested release is carried out at the round end (RoundEndWork says what else that does), and with a
stuck line or a collision, one that waits for the line included, beside all that R86 and R85 do there; its record stands before or after the line's (R119 leaves
the order open, log entry 6), and what is left of the round stands as it was (the MODEL's, log entries 21 and 24). -/
def Obligations.MclrReleasesHost : Prop :=
  ∀ s : State,
    let ru := { s.ru with mclrReady := false }
    exec .mclrRelease s = .next { s with ru := { s.ru with mclrReady := true } } ∧
    (s.ru.mclrReady = false → ∀ b, exec (.mclrAssertion b) s = .next s) ∧
    (s.ru.mclrReady = true →
      (∀ b, s.ru.state ≠ .held ∨ b = false → exec (.mclrAssertion b) s = .next { s with ru := ru }) ∧
      (s.ru.state = .held →
        (s.lu.state = .synced ∨ s.lu.state = .active →
          exec (.mclrAssertion true) s = .next { s with ru := { ru with releaseRequested := true } }) ∧
        (s.lu.state ≠ .synced → s.lu.state ≠ .active →
          exec (.mclrAssertion true) s = .next { s with ru := ru.released, hp := (s.post .hostReleased).hp }))) ∧
    (s.ru.state = .held → s.ru.releaseRequested = true → s.lu.state = .synced ∨ s.lu.state = .active →
      let leaves (c : Instr) (left : State) (posts : List Event) (e : Event) : Prop :=
        let after (es : List Event) : State := { left with ru := s.ru.released, hp := (s.postAll (posts ++ es)).hp }
        exec c s = .next (after [e, .hostReleased]) ∨ exec c s = .next (after [.hostReleased, e])
      let own : Entry := if s.own.state = .absent then { s.own with admission := none } else s.own.gone
      (∀ c k, s.lu.pos = .verdict → s.own.state = .absent → ∃ t, exec (.roundEnd c k) s = .next t ∧ t.ru = s.ru.released) ∧
      leaves .lineStuck
        { s with
          lu := { s.lu.outOfRounds .listening with waitRelease := true, recessiveTime := 0 }
          vu := { s.vu with foreignMark := false } }
        [] .lineStuck ∧
      (s.lu.state = .active → s.lu.driving = .frame ∨ s.lu.collisionPending = true →
        leaves .collision
          { s with
            lu := s.lu.outOfRounds .blocked
            vu := { (s.setEntry s.hp.address own).vu with hostAccused := 0, leavePending := false, foreignMark := false }
            pt := s.pt.disarmed }
          (eventIf (s.own.state = .joining) (.joinFailed .duplicateAddress)) .duplicateAddress))

/-- A condition input (R125, R126, R127): the filtered level becomes the level that was held; a configured station posts INPUT_CHANGE with all four flags as they
stand afterwards, an unconfigured one posts nothing; a level that is no change has no effect. -/
def Obligations.InputChangeTaken : Prop :=
  ∀ (s : State) (n : Fin 4) (level : Bool) (levels : BitVec 4), levels.getLsbD n.val = level →
    (∀ m, m ≠ n.val → levels.getLsbD m = s.cm.levels.getLsbD m) →
    let t : State := { s with cm := { s.cm with levels := levels } }
    (s.cm.levels.getLsbD n.val = level → exec (.inputChange n level) s = .next s) ∧
    (s.cm.levels.getLsbD n.val ≠ level → s.hp.config = none → exec (.inputChange n level) s = .next t) ∧
    (s.cm.levels.getLsbD n.val ≠ level → s.hp.config ≠ none →
      exec (.inputChange n level) s = .next (t.post (.inputChange t.condFlags)))
end

