-- ==== Sys2Proof/Laws/State.lean ====
section
/-! SUPPORT. What each shared operation leaves alone, block by block, so that no later proof unfolds a record update. -/

namespace Sys2Proof.Machine

/-! ### The queue leaves the rest of the Host Port alone -/

/-- An operation that every step of a fold keeps, the fold keeps. -/
theorem foldl_keeps {α β : Type} (P : β → Prop) (f : β → α → β) (h : ∀ t a, P t → P (f t a)) (l : List α) (b : β) (hb : P b) :
    P (l.foldl f b) := by
  induction l generalizing b with
  | nil => exact hb
  | cons a l ih => exact ih _ (h b a hb)

@[simp] theorem HostPort.enqueue_address (r : EventRecord) (h : HostPort) : (h.enqueue r).address = h.address := by
  unfold HostPort.enqueue; repeat' split
  all_goals rfl
@[simp] theorem HostPort.enqueue_config (r : EventRecord) (h : HostPort) : (h.enqueue r).config = h.config := by
  unfold HostPort.enqueue; repeat' split
  all_goals rfl
@[simp] theorem HostPort.enqueue_digest (r : EventRecord) (h : HostPort) : (h.enqueue r).digest = h.digest := by
  unfold HostPort.enqueue; repeat' split
  all_goals rfl
@[simp] theorem HostPort.enqueue_snapshot (r : EventRecord) (h : HostPort) : (h.enqueue r).snapshot = h.snapshot := by
  unfold HostPort.enqueue; repeat' split
  all_goals rfl
@[simp] theorem HostPort.enqueue_cursor (r : EventRecord) (h : HostPort) : (h.enqueue r).cursor = h.cursor := by
  unfold HostPort.enqueue; repeat' split
  all_goals rfl
@[simp] theorem HostPort.enqueue_phase (r : EventRecord) (h : HostPort) : (h.enqueue r).phase = h.phase := by
  unfold HostPort.enqueue; repeat' split
  all_goals rfl
@[simp] theorem HostPort.enqueue_response (r : EventRecord) (h : HostPort) : (h.enqueue r).response = h.response := by
  unfold HostPort.enqueue; repeat' split
  all_goals rfl
@[simp] theorem HostPort.enqueue_advance (r : EventRecord) (h : HostPort) : (h.enqueue r).advance = h.advance := by
  unfold HostPort.enqueue; repeat' split
  all_goals rfl

@[simp] theorem HostPort.removeHead_address (h : HostPort) : (h.removeHead).address = h.address := by
  unfold HostPort.removeHead; repeat' split
  all_goals rfl
@[simp] theorem HostPort.removeHead_config (h : HostPort) : (h.removeHead).config = h.config := by
  unfold HostPort.removeHead; repeat' split
  all_goals rfl
@[simp] theorem HostPort.removeHead_digest (h : HostPort) : (h.removeHead).digest = h.digest := by
  unfold HostPort.removeHead; repeat' split
  all_goals rfl
@[simp] theorem HostPort.removeHead_snapshot (h : HostPort) : (h.removeHead).snapshot = h.snapshot := by
  unfold HostPort.removeHead; repeat' split
  all_goals rfl
@[simp] theorem HostPort.removeHead_cursor (h : HostPort) : (h.removeHead).cursor = h.cursor := by
  unfold HostPort.removeHead; repeat' split
  all_goals rfl
@[simp] theorem HostPort.removeHead_phase (h : HostPort) : (h.removeHead).phase = h.phase := by
  unfold HostPort.removeHead; repeat' split
  all_goals rfl
@[simp] theorem HostPort.removeHead_response (h : HostPort) : (h.removeHead).response = h.response := by
  unfold HostPort.removeHead; repeat' split
  all_goals rfl
@[simp] theorem HostPort.removeHead_advance (h : HostPort) : (h.removeHead).advance = h.advance := by
  unfold HostPort.removeHead; repeat' split
  all_goals rfl
@[simp] theorem HostPort.removeHead_lost (h : HostPort) : (h.removeHead).lost = h.lost := by
  unfold HostPort.removeHead; repeat' split
  all_goals rfl
@[simp] theorem HostPort.advanceCursor_address (h : HostPort) : (h.advanceCursor).address = h.address := by
  unfold HostPort.advanceCursor; repeat' split
  all_goals rfl
@[simp] theorem HostPort.advanceCursor_config (h : HostPort) : (h.advanceCursor).config = h.config := by
  unfold HostPort.advanceCursor; repeat' split
  all_goals rfl
@[simp] theorem HostPort.advanceCursor_digest (h : HostPort) : (h.advanceCursor).digest = h.digest := by
  unfold HostPort.advanceCursor; repeat' split
  all_goals rfl
@[simp] theorem HostPort.advanceCursor_queue (h : HostPort) : (h.advanceCursor).queue = h.queue := by
  unfold HostPort.advanceCursor; repeat' split
  all_goals rfl
@[simp] theorem HostPort.advanceCursor_lost (h : HostPort) : (h.advanceCursor).lost = h.lost := by
  unfold HostPort.advanceCursor; repeat' split
  all_goals rfl
@[simp] theorem HostPort.advanceCursor_int (h : HostPort) : (h.advanceCursor).int = h.int := by
  unfold HostPort.advanceCursor; repeat' split
  all_goals rfl
@[simp] theorem HostPort.advanceCursor_phase (h : HostPort) : (h.advanceCursor).phase = h.phase := by
  unfold HostPort.advanceCursor; repeat' split
  all_goals rfl
@[simp] theorem HostPort.advanceCursor_response (h : HostPort) : (h.advanceCursor).response = h.response := by
  unfold HostPort.advanceCursor; repeat' split
  all_goals rfl
@[simp] theorem HostPort.advanceCursor_advance (h : HostPort) : (h.advanceCursor).advance = h.advance := by
  unfold HostPort.advanceCursor; repeat' split
  all_goals rfl

@[simp] theorem State.post_address (e : Event) (s : State) : (s.post e).hp.address = s.hp.address := by
  unfold State.post; dsimp only; split <;> simp
@[simp] theorem State.post_config (e : Event) (s : State) : (s.post e).hp.config = s.hp.config := by
  unfold State.post; dsimp only; split <;> simp
@[simp] theorem State.post_digest (e : Event) (s : State) : (s.post e).hp.digest = s.hp.digest := by
  unfold State.post; dsimp only; split <;> simp
@[simp] theorem State.post_snapshot (e : Event) (s : State) : (s.post e).hp.snapshot = s.hp.snapshot := by
  unfold State.post; dsimp only; split <;> simp
@[simp] theorem State.post_cursor (e : Event) (s : State) : (s.post e).hp.cursor = s.hp.cursor := by
  unfold State.post; dsimp only; split <;> simp
@[simp] theorem State.post_phase (e : Event) (s : State) : (s.post e).hp.phase = s.hp.phase := by
  unfold State.post; dsimp only; split <;> simp
@[simp] theorem State.post_response (e : Event) (s : State) : (s.post e).hp.response = s.hp.response := by
  unfold State.post; dsimp only; split <;> simp
@[simp] theorem State.post_advance (e : Event) (s : State) : (s.post e).hp.advance = s.hp.advance := by
  unfold State.post; dsimp only; split <;> simp

/-! ### The blocks that an operation does not touch -/

@[simp] theorem State.post_lu (e : Event) (s : State) : (s.post e).lu = s.lu := rfl
@[simp] theorem State.post_vu (e : Event) (s : State) : (s.post e).vu = s.vu := rfl
@[simp] theorem State.post_pt (e : Event) (s : State) : (s.post e).pt = s.pt := rfl
@[simp] theorem State.post_ru (e : Event) (s : State) : (s.post e).ru = s.ru := rfl
@[simp] theorem State.post_cm (e : Event) (s : State) : (s.post e).cm = s.cm := rfl
@[simp] theorem State.post_pending (e : Event) (s : State) : (s.post e).pending = s.pending := rfl
@[simp] theorem State.post_ticks (e : Event) (s : State) : (s.post e).ticks = s.ticks := rfl

@[simp] theorem State.setEntry_lu (a : Addr) (e : Entry) (s : State) : (s.setEntry a e).lu = s.lu := rfl
@[simp] theorem State.setEntry_pt (a : Addr) (e : Entry) (s : State) : (s.setEntry a e).pt = s.pt := rfl
@[simp] theorem State.setEntry_ru (a : Addr) (e : Entry) (s : State) : (s.setEntry a e).ru = s.ru := rfl
@[simp] theorem State.setEntry_cm (a : Addr) (e : Entry) (s : State) : (s.setEntry a e).cm = s.cm := rfl
@[simp] theorem State.setEntry_hp (a : Addr) (e : Entry) (s : State) : (s.setEntry a e).hp = s.hp := rfl
@[simp] theorem State.setEntry_pending (a : Addr) (e : Entry) (s : State) : (s.setEntry a e).pending = s.pending := rfl
@[simp] theorem State.setEntry_ticks (a : Addr) (e : Entry) (s : State) : (s.setEntry a e).ticks = s.ticks := rfl

@[simp] theorem State.modifyEntry_lu (a : Addr) (f : Entry → Entry) (s : State) : (s.modifyEntry a f).lu = s.lu := rfl
@[simp] theorem State.modifyEntry_pt (a : Addr) (f : Entry → Entry) (s : State) : (s.modifyEntry a f).pt = s.pt := rfl
@[simp] theorem State.modifyEntry_ru (a : Addr) (f : Entry → Entry) (s : State) : (s.modifyEntry a f).ru = s.ru := rfl
@[simp] theorem State.modifyEntry_cm (a : Addr) (f : Entry → Entry) (s : State) : (s.modifyEntry a f).cm = s.cm := rfl
@[simp] theorem State.modifyEntry_hp (a : Addr) (f : Entry → Entry) (s : State) : (s.modifyEntry a f).hp = s.hp := rfl
@[simp] theorem State.modifyEntry_pending (a : Addr) (f : Entry → Entry) (s : State) : (s.modifyEntry a f).pending = s.pending := rfl
@[simp] theorem State.modifyEntry_ticks (a : Addr) (f : Entry → Entry) (s : State) : (s.modifyEntry a f).ticks = s.ticks := rfl

@[simp] theorem State.dropAccusation_lu (a : Addr) (s : State) : (s.dropAccusation a).lu = s.lu := rfl
@[simp] theorem State.dropAccusation_pt (a : Addr) (s : State) : (s.dropAccusation a).pt = s.pt := rfl
@[simp] theorem State.dropAccusation_ru (a : Addr) (s : State) : (s.dropAccusation a).ru = s.ru := rfl
@[simp] theorem State.dropAccusation_cm (a : Addr) (s : State) : (s.dropAccusation a).cm = s.cm := rfl
@[simp] theorem State.dropAccusation_hp (a : Addr) (s : State) : (s.dropAccusation a).hp = s.hp := rfl
@[simp] theorem State.dropAccusation_pending (a : Addr) (s : State) : (s.dropAccusation a).pending = s.pending := rfl
@[simp] theorem State.dropAccusation_ticks (a : Addr) (s : State) : (s.dropAccusation a).ticks = s.ticks := rfl

@[simp] theorem State.armTimer_lu (s : State) : (s.armTimer).lu = s.lu := rfl
@[simp] theorem State.armTimer_vu (s : State) : (s.armTimer).vu = s.vu := rfl
@[simp] theorem State.armTimer_ru (s : State) : (s.armTimer).ru = s.ru := rfl
@[simp] theorem State.armTimer_cm (s : State) : (s.armTimer).cm = s.cm := rfl
@[simp] theorem State.armTimer_hp (s : State) : (s.armTimer).hp = s.hp := rfl
@[simp] theorem State.armTimer_pending (s : State) : (s.armTimer).pending = s.pending := rfl
@[simp] theorem State.armTimer_ticks (s : State) : (s.armTimer).ticks = s.ticks := rfl

@[simp] theorem State.disarmTimer_lu (s : State) : (s.disarmTimer).lu = s.lu := rfl
@[simp] theorem State.disarmTimer_vu (s : State) : (s.disarmTimer).vu = s.vu := rfl
@[simp] theorem State.disarmTimer_ru (s : State) : (s.disarmTimer).ru = s.ru := rfl
@[simp] theorem State.disarmTimer_cm (s : State) : (s.disarmTimer).cm = s.cm := rfl
@[simp] theorem State.disarmTimer_hp (s : State) : (s.disarmTimer).hp = s.hp := rfl
@[simp] theorem State.disarmTimer_pending (s : State) : (s.disarmTimer).pending = s.pending := rfl
@[simp] theorem State.disarmTimer_ticks (s : State) : (s.disarmTimer).ticks = s.ticks := rfl

@[simp] theorem State.startAttempt_lu (s : State) : (s.startAttempt).lu = s.lu := rfl
@[simp] theorem State.startAttempt_vu (s : State) : (s.startAttempt).vu = s.vu := rfl
@[simp] theorem State.startAttempt_pt (s : State) : (s.startAttempt).pt = s.pt := rfl
@[simp] theorem State.startAttempt_cm (s : State) : (s.startAttempt).cm = s.cm := rfl
@[simp] theorem State.startAttempt_pending (s : State) : (s.startAttempt).pending = s.pending := rfl
@[simp] theorem State.startAttempt_ticks (s : State) : (s.startAttempt).ticks = s.ticks := rfl

@[simp] theorem State.releaseHost_lu (s : State) : (s.releaseHost).lu = s.lu := rfl
@[simp] theorem State.releaseHost_vu (s : State) : (s.releaseHost).vu = s.vu := rfl
@[simp] theorem State.releaseHost_pt (s : State) : (s.releaseHost).pt = s.pt := rfl
@[simp] theorem State.releaseHost_cm (s : State) : (s.releaseHost).cm = s.cm := rfl
@[simp] theorem State.releaseHost_pending (s : State) : (s.releaseHost).pending = s.pending := rfl
@[simp] theorem State.releaseHost_ticks (s : State) : (s.releaseHost).ticks = s.ticks := rfl

@[simp] theorem State.formVoters_lu (s : State) : (s.formVoters).lu = s.lu := rfl
@[simp] theorem State.formVoters_pt (s : State) : (s.formVoters).pt = s.pt := rfl
@[simp] theorem State.formVoters_ru (s : State) : (s.formVoters).ru = s.ru := rfl
@[simp] theorem State.formVoters_cm (s : State) : (s.formVoters).cm = s.cm := rfl
@[simp] theorem State.formVoters_hp (s : State) : (s.formVoters).hp = s.hp := rfl
@[simp] theorem State.formVoters_pending (s : State) : (s.formVoters).pending = s.pending := rfl
@[simp] theorem State.formVoters_ticks (s : State) : (s.formVoters).ticks = s.ticks := rfl

@[simp] theorem State.recordOwnReport_lu (s : State) : (s.recordOwnReport).lu = s.lu := rfl
@[simp] theorem State.recordOwnReport_pt (s : State) : (s.recordOwnReport).pt = s.pt := rfl
@[simp] theorem State.recordOwnReport_ru (s : State) : (s.recordOwnReport).ru = s.ru := rfl
@[simp] theorem State.recordOwnReport_cm (s : State) : (s.recordOwnReport).cm = s.cm := rfl
@[simp] theorem State.recordOwnReport_hp (s : State) : (s.recordOwnReport).hp = s.hp := rfl
@[simp] theorem State.recordOwnReport_pending (s : State) : (s.recordOwnReport).pending = s.pending := rfl
@[simp] theorem State.recordOwnReport_ticks (s : State) : (s.recordOwnReport).ticks = s.ticks := rfl

@[simp] theorem State.startRound_vu (d : Driving) (b : Bool) (s : State) : (s.startRound d b).vu = s.vu := rfl
@[simp] theorem State.startRound_pt (d : Driving) (b : Bool) (s : State) : (s.startRound d b).pt = s.pt := rfl
@[simp] theorem State.startRound_ru (d : Driving) (b : Bool) (s : State) : (s.startRound d b).ru = s.ru := rfl
@[simp] theorem State.startRound_cm (d : Driving) (b : Bool) (s : State) : (s.startRound d b).cm = s.cm := rfl
@[simp] theorem State.startRound_hp (d : Driving) (b : Bool) (s : State) : (s.startRound d b).hp = s.hp := rfl
@[simp] theorem State.startRound_pending (d : Driving) (b : Bool) (s : State) : (s.startRound d b).pending = s.pending := rfl
@[simp] theorem State.startRound_ticks (d : Driving) (b : Bool) (s : State) : (s.startRound d b).ticks = s.ticks := rfl

@[simp] theorem State.leaveRounds_pt (st : LineState) (s : State) : (s.leaveRounds st).pt = s.pt := rfl
@[simp] theorem State.leaveRounds_ru (st : LineState) (s : State) : (s.leaveRounds st).ru = s.ru := rfl
@[simp] theorem State.leaveRounds_cm (st : LineState) (s : State) : (s.leaveRounds st).cm = s.cm := rfl
@[simp] theorem State.leaveRounds_hp (st : LineState) (s : State) : (s.leaveRounds st).hp = s.hp := rfl
@[simp] theorem State.leaveRounds_pending (st : LineState) (s : State) : (s.leaveRounds st).pending = s.pending := rfl
@[simp] theorem State.leaveRounds_ticks (st : LineState) (s : State) : (s.leaveRounds st).ticks = s.ticks := rfl

@[simp] theorem State.sampleField_vu (c k : AddrSet) (s : State) : (s.sampleField c k).vu = s.vu := rfl
@[simp] theorem State.sampleField_pt (c k : AddrSet) (s : State) : (s.sampleField c k).pt = s.pt := rfl
@[simp] theorem State.sampleField_ru (c k : AddrSet) (s : State) : (s.sampleField c k).ru = s.ru := rfl
@[simp] theorem State.sampleField_cm (c k : AddrSet) (s : State) : (s.sampleField c k).cm = s.cm := rfl
@[simp] theorem State.sampleField_hp (c k : AddrSet) (s : State) : (s.sampleField c k).hp = s.hp := rfl
@[simp] theorem State.sampleField_pending (c k : AddrSet) (s : State) : (s.sampleField c k).pending = s.pending := rfl
@[simp] theorem State.sampleField_ticks (c k : AddrSet) (s : State) : (s.sampleField c k).ticks = s.ticks := rfl

@[simp] theorem State.answerWith_lu (st : Status) (d : List Byte) (adv : Option Advance) (s : State) : (s.answerWith st d adv).lu = s.lu := rfl
@[simp] theorem State.answerWith_vu (st : Status) (d : List Byte) (adv : Option Advance) (s : State) : (s.answerWith st d adv).vu = s.vu := rfl
@[simp] theorem State.answerWith_pt (st : Status) (d : List Byte) (adv : Option Advance) (s : State) : (s.answerWith st d adv).pt = s.pt := rfl
@[simp] theorem State.answerWith_ru (st : Status) (d : List Byte) (adv : Option Advance) (s : State) : (s.answerWith st d adv).ru = s.ru := rfl
@[simp] theorem State.answerWith_cm (st : Status) (d : List Byte) (adv : Option Advance) (s : State) : (s.answerWith st d adv).cm = s.cm := rfl
@[simp] theorem State.answerWith_pending (st : Status) (d : List Byte) (adv : Option Advance) (s : State) : (s.answerWith st d adv).pending = s.pending := rfl
@[simp] theorem State.answerWith_ticks (st : Status) (d : List Byte) (adv : Option Advance) (s : State) : (s.answerWith st d adv).ticks = s.ticks := rfl

@[simp] theorem State.answer_lu (st : Status) (d : List Byte) (s : State) : (s.answer st d).lu = s.lu := rfl
@[simp] theorem State.answer_vu (st : Status) (d : List Byte) (s : State) : (s.answer st d).vu = s.vu := rfl
@[simp] theorem State.answer_pt (st : Status) (d : List Byte) (s : State) : (s.answer st d).pt = s.pt := rfl
@[simp] theorem State.answer_ru (st : Status) (d : List Byte) (s : State) : (s.answer st d).ru = s.ru := rfl
@[simp] theorem State.answer_cm (st : Status) (d : List Byte) (s : State) : (s.answer st d).cm = s.cm := rfl
@[simp] theorem State.answer_pending (st : Status) (d : List Byte) (s : State) : (s.answer st d).pending = s.pending := rfl
@[simp] theorem State.answer_ticks (st : Status) (d : List Byte) (s : State) : (s.answer st d).ticks = s.ticks := rfl

@[simp] theorem State.deselect_lu (s : State) : (s.deselect).lu = s.lu := rfl
@[simp] theorem State.deselect_vu (s : State) : (s.deselect).vu = s.vu := rfl
@[simp] theorem State.deselect_pt (s : State) : (s.deselect).pt = s.pt := rfl
@[simp] theorem State.deselect_ru (s : State) : (s.deselect).ru = s.ru := rfl
@[simp] theorem State.deselect_cm (s : State) : (s.deselect).cm = s.cm := rfl
@[simp] theorem State.deselect_pending (s : State) : (s.deselect).pending = s.pending := rfl
@[simp] theorem State.deselect_ticks (s : State) : (s.deselect).ticks = s.ticks := rfl

@[simp] theorem State.count_vu (s : State) : (s.count).vu = s.vu := rfl
@[simp] theorem State.count_cm (s : State) : (s.count).cm = s.cm := rfl
@[simp] theorem State.count_hp (s : State) : (s.count).hp = s.hp := rfl
@[simp] theorem State.count_pending (s : State) : (s.count).pending = s.pending := rfl

@[simp] theorem State.restarted_pending (s : State) : (s.restarted).pending = s.pending := rfl
@[simp] theorem State.restarted_ticks (s : State) : (s.restarted).ticks = s.ticks := rfl

@[simp] theorem State.countAccusations_lu (k : Addr) (a : AddrSet) (s : State) : (s.countAccusations k a).lu = s.lu := by
  unfold State.countAccusations; dsimp only; repeat' split
  all_goals rfl
@[simp] theorem State.countAccusations_pt (k : Addr) (a : AddrSet) (s : State) : (s.countAccusations k a).pt = s.pt := by
  unfold State.countAccusations; dsimp only; repeat' split
  all_goals rfl
@[simp] theorem State.countAccusations_ru (k : Addr) (a : AddrSet) (s : State) : (s.countAccusations k a).ru = s.ru := by
  unfold State.countAccusations; dsimp only; repeat' split
  all_goals rfl
@[simp] theorem State.countAccusations_cm (k : Addr) (a : AddrSet) (s : State) : (s.countAccusations k a).cm = s.cm := by
  unfold State.countAccusations; dsimp only; repeat' split
  all_goals rfl
@[simp] theorem State.countAccusations_hp (k : Addr) (a : AddrSet) (s : State) : (s.countAccusations k a).hp = s.hp := by
  unfold State.countAccusations; dsimp only; repeat' split
  all_goals rfl
@[simp] theorem State.countAccusations_pending (k : Addr) (a : AddrSet) (s : State) : (s.countAccusations k a).pending = s.pending := by
  unfold State.countAccusations; dsimp only; repeat' split
  all_goals rfl
@[simp] theorem State.countAccusations_ticks (k : Addr) (a : AddrSet) (s : State) : (s.countAccusations k a).ticks = s.ticks := by
  unfold State.countAccusations; dsimp only; repeat' split
  all_goals rfl

@[simp] theorem State.moveEntry_lu (a : Addr) (f : Entry → Entry) (s : State) : (s.moveEntry a f).lu = s.lu := by
  unfold State.moveEntry; repeat' split
  all_goals rfl
@[simp] theorem State.moveEntry_pt (a : Addr) (f : Entry → Entry) (s : State) : (s.moveEntry a f).pt = s.pt := by
  unfold State.moveEntry; repeat' split
  all_goals rfl
@[simp] theorem State.moveEntry_ru (a : Addr) (f : Entry → Entry) (s : State) : (s.moveEntry a f).ru = s.ru := by
  unfold State.moveEntry; repeat' split
  all_goals rfl
@[simp] theorem State.moveEntry_cm (a : Addr) (f : Entry → Entry) (s : State) : (s.moveEntry a f).cm = s.cm := by
  unfold State.moveEntry; repeat' split
  all_goals rfl
@[simp] theorem State.moveEntry_hp (a : Addr) (f : Entry → Entry) (s : State) : (s.moveEntry a f).hp = s.hp := by
  unfold State.moveEntry; repeat' split
  all_goals rfl
@[simp] theorem State.moveEntry_pending (a : Addr) (f : Entry → Entry) (s : State) : (s.moveEntry a f).pending = s.pending := by
  unfold State.moveEntry; repeat' split
  all_goals rfl
@[simp] theorem State.moveEntry_ticks (a : Addr) (f : Entry → Entry) (s : State) : (s.moveEntry a f).ticks = s.ticks := by
  unfold State.moveEntry; repeat' split
  all_goals rfl

@[simp] theorem State.suspect_lu (j : Addr) (c : SuspectCause) (s : State) : (s.suspect j c).lu = s.lu := by
  unfold State.suspect; repeat' split
  all_goals rfl
@[simp] theorem State.suspect_pt (j : Addr) (c : SuspectCause) (s : State) : (s.suspect j c).pt = s.pt := by
  unfold State.suspect; repeat' split
  all_goals rfl
@[simp] theorem State.suspect_ru (j : Addr) (c : SuspectCause) (s : State) : (s.suspect j c).ru = s.ru := by
  unfold State.suspect; repeat' split
  all_goals rfl
@[simp] theorem State.suspect_cm (j : Addr) (c : SuspectCause) (s : State) : (s.suspect j c).cm = s.cm := by
  unfold State.suspect; repeat' split
  all_goals rfl
@[simp] theorem State.suspect_pending (j : Addr) (c : SuspectCause) (s : State) : (s.suspect j c).pending = s.pending := by
  unfold State.suspect; repeat' split
  all_goals rfl
@[simp] theorem State.suspect_ticks (j : Addr) (c : SuspectCause) (s : State) : (s.suspect j c).ticks = s.ticks := by
  unfold State.suspect; repeat' split
  all_goals rfl

@[simp] theorem State.testEvidence_lu (j : Addr) (s : State) : (s.testEvidence j).lu = s.lu := by
  unfold State.testEvidence; repeat' split
  all_goals first | rfl | simp
@[simp] theorem State.testEvidence_pt (j : Addr) (s : State) : (s.testEvidence j).pt = s.pt := by
  unfold State.testEvidence; repeat' split
  all_goals first | rfl | simp
@[simp] theorem State.testEvidence_ru (j : Addr) (s : State) : (s.testEvidence j).ru = s.ru := by
  unfold State.testEvidence; repeat' split
  all_goals first | rfl | simp
@[simp] theorem State.testEvidence_cm (j : Addr) (s : State) : (s.testEvidence j).cm = s.cm := by
  unfold State.testEvidence; repeat' split
  all_goals first | rfl | simp
@[simp] theorem State.testEvidence_pending (j : Addr) (s : State) : (s.testEvidence j).pending = s.pending := by
  unfold State.testEvidence; repeat' split
  all_goals first | rfl | simp
@[simp] theorem State.testEvidence_ticks (j : Addr) (s : State) : (s.testEvidence j).ticks = s.ticks := by
  unfold State.testEvidence; repeat' split
  all_goals first | rfl | simp

@[simp] theorem State.warnTimer_lu (s : State) : (s.warnTimer).lu = s.lu := by
  unfold State.warnTimer; dsimp only; repeat' split
  all_goals rfl
@[simp] theorem State.warnTimer_vu (s : State) : (s.warnTimer).vu = s.vu := by
  unfold State.warnTimer; dsimp only; repeat' split
  all_goals rfl
@[simp] theorem State.warnTimer_ru (s : State) : (s.warnTimer).ru = s.ru := by
  unfold State.warnTimer; dsimp only; repeat' split
  all_goals rfl
@[simp] theorem State.warnTimer_cm (s : State) : (s.warnTimer).cm = s.cm := by
  unfold State.warnTimer; dsimp only; repeat' split
  all_goals rfl
@[simp] theorem State.warnTimer_pending (s : State) : (s.warnTimer).pending = s.pending := by
  unfold State.warnTimer; dsimp only; repeat' split
  all_goals rfl
@[simp] theorem State.warnTimer_ticks (s : State) : (s.warnTimer).ticks = s.ticks := by
  unfold State.warnTimer; dsimp only; repeat' split
  all_goals rfl

@[simp] theorem State.lapseTimer_lu (s : State) : (s.lapseTimer).lu = s.lu := by
  unfold State.lapseTimer; dsimp only; repeat' split
  all_goals rfl
@[simp] theorem State.lapseTimer_vu (s : State) : (s.lapseTimer).vu = s.vu := by
  unfold State.lapseTimer; dsimp only; repeat' split
  all_goals rfl
@[simp] theorem State.lapseTimer_ru (s : State) : (s.lapseTimer).ru = s.ru := by
  unfold State.lapseTimer; dsimp only; repeat' split
  all_goals rfl
@[simp] theorem State.lapseTimer_cm (s : State) : (s.lapseTimer).cm = s.cm := by
  unfold State.lapseTimer; dsimp only; repeat' split
  all_goals rfl
@[simp] theorem State.lapseTimer_pending (s : State) : (s.lapseTimer).pending = s.pending := by
  unfold State.lapseTimer; dsimp only; repeat' split
  all_goals rfl
@[simp] theorem State.lapseTimer_ticks (s : State) : (s.lapseTimer).ticks = s.ticks := by
  unfold State.lapseTimer; dsimp only; repeat' split
  all_goals rfl

@[simp] theorem State.endPulse_lu (s : State) : (s.endPulse).lu = s.lu := by
  unfold State.endPulse; dsimp only; repeat' split
  all_goals rfl
@[simp] theorem State.endPulse_vu (s : State) : (s.endPulse).vu = s.vu := by
  unfold State.endPulse; dsimp only; repeat' split
  all_goals rfl
@[simp] theorem State.endPulse_pt (s : State) : (s.endPulse).pt = s.pt := by
  unfold State.endPulse; dsimp only; repeat' split
  all_goals rfl
@[simp] theorem State.endPulse_cm (s : State) : (s.endPulse).cm = s.cm := by
  unfold State.endPulse; dsimp only; repeat' split
  all_goals rfl
@[simp] theorem State.endPulse_pending (s : State) : (s.endPulse).pending = s.pending := by
  unfold State.endPulse; dsimp only; repeat' split
  all_goals rfl
@[simp] theorem State.endPulse_ticks (s : State) : (s.endPulse).ticks = s.ticks := by
  unfold State.endPulse; dsimp only; repeat' split
  all_goals rfl

@[simp] theorem State.hold_lu (s : State) : (s.hold).lu = s.lu := by
  simp [State.hold]
@[simp] theorem State.hold_pt (s : State) : (s.hold).pt = s.pt := by
  simp [State.hold]
@[simp] theorem State.hold_cm (s : State) : (s.hold).cm = s.cm := by
  simp [State.hold]
@[simp] theorem State.hold_pending (s : State) : (s.hold).pending = s.pending := by
  simp [State.hold]
@[simp] theorem State.hold_ticks (s : State) : (s.hold).ticks = s.ticks := by
  simp [State.hold]

@[simp] theorem State.endWindow_lu (s : State) : (s.endWindow).lu = s.lu := by
  unfold State.endWindow; repeat' split
  all_goals first | rfl | simp
@[simp] theorem State.endWindow_pt (s : State) : (s.endWindow).pt = s.pt := by
  unfold State.endWindow; repeat' split
  all_goals first | rfl | simp
@[simp] theorem State.endWindow_cm (s : State) : (s.endWindow).cm = s.cm := by
  unfold State.endWindow; repeat' split
  all_goals first | rfl | simp
@[simp] theorem State.endWindow_pending (s : State) : (s.endWindow).pending = s.pending := by
  unfold State.endWindow; repeat' split
  all_goals first | rfl | simp
@[simp] theorem State.endWindow_ticks (s : State) : (s.endWindow).ticks = s.ticks := by
  unfold State.endWindow; repeat' split
  all_goals first | rfl | simp

@[simp] theorem State.countRecoveryRound_lu (s : State) : (s.countRecoveryRound).lu = s.lu := by
  unfold State.countRecoveryRound; dsimp only; repeat' split
  all_goals first | rfl | simp
@[simp] theorem State.countRecoveryRound_pt (s : State) : (s.countRecoveryRound).pt = s.pt := by
  unfold State.countRecoveryRound; dsimp only; repeat' split
  all_goals first | rfl | simp
@[simp] theorem State.countRecoveryRound_cm (s : State) : (s.countRecoveryRound).cm = s.cm := by
  unfold State.countRecoveryRound; dsimp only; repeat' split
  all_goals first | rfl | simp
@[simp] theorem State.countRecoveryRound_pending (s : State) : (s.countRecoveryRound).pending = s.pending := by
  unfold State.countRecoveryRound; dsimp only; repeat' split
  all_goals first | rfl | simp
@[simp] theorem State.countRecoveryRound_ticks (s : State) : (s.countRecoveryRound).ticks = s.ticks := by
  unfold State.countRecoveryRound; dsimp only; repeat' split
  all_goals first | rfl | simp

@[simp] theorem State.rejoin_lu (s : State) : (s.rejoin).lu = s.lu := by
  unfold State.rejoin; dsimp only; repeat' split
  all_goals rfl
@[simp] theorem State.rejoin_vu (s : State) : (s.rejoin).vu = s.vu := by
  unfold State.rejoin; dsimp only; repeat' split
  all_goals rfl
@[simp] theorem State.rejoin_pt (s : State) : (s.rejoin).pt = s.pt := by
  unfold State.rejoin; dsimp only; repeat' split
  all_goals rfl
@[simp] theorem State.rejoin_cm (s : State) : (s.rejoin).cm = s.cm := by
  unfold State.rejoin; dsimp only; repeat' split
  all_goals rfl
@[simp] theorem State.rejoin_pending (s : State) : (s.rejoin).pending = s.pending := by
  unfold State.rejoin; dsimp only; repeat' split
  all_goals rfl
@[simp] theorem State.rejoin_ticks (s : State) : (s.rejoin).ticks = s.ticks := by
  unfold State.rejoin; dsimp only; repeat' split
  all_goals rfl

@[simp] theorem State.releaseIfRequested_lu (s : State) : (s.releaseIfRequested).lu = s.lu := by
  unfold State.releaseIfRequested; repeat' split
  all_goals rfl
@[simp] theorem State.releaseIfRequested_vu (s : State) : (s.releaseIfRequested).vu = s.vu := by
  unfold State.releaseIfRequested; repeat' split
  all_goals rfl
@[simp] theorem State.releaseIfRequested_pt (s : State) : (s.releaseIfRequested).pt = s.pt := by
  unfold State.releaseIfRequested; repeat' split
  all_goals rfl
@[simp] theorem State.releaseIfRequested_cm (s : State) : (s.releaseIfRequested).cm = s.cm := by
  unfold State.releaseIfRequested; repeat' split
  all_goals rfl
@[simp] theorem State.releaseIfRequested_pending (s : State) : (s.releaseIfRequested).pending = s.pending := by
  unfold State.releaseIfRequested; repeat' split
  all_goals rfl
@[simp] theorem State.releaseIfRequested_ticks (s : State) : (s.releaseIfRequested).ticks = s.ticks := by
  unfold State.releaseIfRequested; repeat' split
  all_goals rfl

@[simp] theorem State.postLeaving_lu (e : Event) (s : State) : (s.postLeaving e).lu = s.lu := by
  unfold State.postLeaving; repeat' split
  all_goals first | rfl | simp
@[simp] theorem State.postLeaving_vu (e : Event) (s : State) : (s.postLeaving e).vu = s.vu := by
  unfold State.postLeaving; repeat' split
  all_goals first | rfl | simp
@[simp] theorem State.postLeaving_pt (e : Event) (s : State) : (s.postLeaving e).pt = s.pt := by
  unfold State.postLeaving; repeat' split
  all_goals first | rfl | simp
@[simp] theorem State.postLeaving_cm (e : Event) (s : State) : (s.postLeaving e).cm = s.cm := by
  unfold State.postLeaving; repeat' split
  all_goals first | rfl | simp
@[simp] theorem State.postLeaving_pending (e : Event) (s : State) : (s.postLeaving e).pending = s.pending := by
  unfold State.postLeaving; repeat' split
  all_goals first | rfl | simp
@[simp] theorem State.postLeaving_ticks (e : Event) (s : State) : (s.postLeaving e).ticks = s.ticks := by
  unfold State.postLeaving; repeat' split
  all_goals first | rfl | simp

@[simp] theorem State.depart_lu (s : State) : (s.depart).lu = s.lu := by
  unfold State.depart; dsimp only; split <;> simp
@[simp] theorem State.depart_ru (s : State) : (s.depart).ru = s.ru := by
  unfold State.depart; dsimp only; split <;> simp
@[simp] theorem State.depart_pending (s : State) : (s.depart).pending = s.pending := by
  unfold State.depart; dsimp only; split <;> simp
@[simp] theorem State.depart_ticks (s : State) : (s.depart).ticks = s.ticks := by
  unfold State.depart; dsimp only; split <;> simp

@[simp] theorem State.deliver_lu (s : State) : (s.deliver).lu = s.lu := by
  unfold State.deliver; dsimp only; repeat' split
  all_goals rfl
@[simp] theorem State.deliver_vu (s : State) : (s.deliver).vu = s.vu := by
  unfold State.deliver; dsimp only; repeat' split
  all_goals rfl
@[simp] theorem State.deliver_pt (s : State) : (s.deliver).pt = s.pt := by
  unfold State.deliver; dsimp only; repeat' split
  all_goals rfl
@[simp] theorem State.deliver_ru (s : State) : (s.deliver).ru = s.ru := by
  unfold State.deliver; dsimp only; repeat' split
  all_goals rfl
@[simp] theorem State.deliver_cm (s : State) : (s.deliver).cm = s.cm := by
  unfold State.deliver; dsimp only; repeat' split
  all_goals rfl
@[simp] theorem State.deliver_pending (s : State) : (s.deliver).pending = s.pending := by
  unfold State.deliver; dsimp only; repeat' split
  all_goals rfl
@[simp] theorem State.deliver_ticks (s : State) : (s.deliver).ticks = s.ticks := by
  unfold State.deliver; dsimp only; repeat' split
  all_goals rfl

/-! ### The own address and the configuration stand -/

@[simp] theorem State.setEntry_address (a : Addr) (e : Entry) (s : State) : (s.setEntry a e).hp.address = s.hp.address := by rw [State.setEntry_hp]
@[simp] theorem State.modifyEntry_address (a : Addr) (f : Entry → Entry) (s : State) : (s.modifyEntry a f).hp.address = s.hp.address := by rw [State.modifyEntry_hp]
@[simp] theorem State.dropAccusation_address (a : Addr) (s : State) : (s.dropAccusation a).hp.address = s.hp.address := by rw [State.dropAccusation_hp]
@[simp] theorem State.armTimer_address (s : State) : (s.armTimer).hp.address = s.hp.address := by rw [State.armTimer_hp]
@[simp] theorem State.disarmTimer_address (s : State) : (s.disarmTimer).hp.address = s.hp.address := by rw [State.disarmTimer_hp]
@[simp] theorem State.startAttempt_address (s : State) : (s.startAttempt).hp.address = s.hp.address := by
  simp [State.startAttempt]
@[simp] theorem State.releaseHost_address (s : State) : (s.releaseHost).hp.address = s.hp.address := by
  simp [State.releaseHost]
@[simp] theorem State.formVoters_address (s : State) : (s.formVoters).hp.address = s.hp.address := by rw [State.formVoters_hp]
@[simp] theorem State.recordOwnReport_address (s : State) : (s.recordOwnReport).hp.address = s.hp.address := by rw [State.recordOwnReport_hp]
@[simp] theorem State.startRound_address (d : Driving) (b : Bool) (s : State) : (s.startRound d b).hp.address = s.hp.address := by rw [State.startRound_hp]
@[simp] theorem State.leaveRounds_address (st : LineState) (s : State) : (s.leaveRounds st).hp.address = s.hp.address := by rw [State.leaveRounds_hp]
@[simp] theorem State.sampleField_address (c k : AddrSet) (s : State) : (s.sampleField c k).hp.address = s.hp.address := by rw [State.sampleField_hp]
@[simp] theorem State.answerWith_address (st : Status) (d : List Byte) (adv : Option Advance) (s : State) : (s.answerWith st d adv).hp.address = s.hp.address := rfl
@[simp] theorem State.answer_address (st : Status) (d : List Byte) (s : State) : (s.answer st d).hp.address = s.hp.address := rfl
@[simp] theorem State.deselect_address (s : State) : (s.deselect).hp.address = s.hp.address := rfl
@[simp] theorem State.count_address (s : State) : (s.count).hp.address = s.hp.address := by rw [State.count_hp]
@[simp] theorem State.restarted_address (s : State) : (s.restarted).hp.address = s.hp.address := rfl
@[simp] theorem State.countAccusations_address (k : Addr) (a : AddrSet) (s : State) : (s.countAccusations k a).hp.address = s.hp.address := by rw [State.countAccusations_hp]
@[simp] theorem State.moveEntry_address (a : Addr) (f : Entry → Entry) (s : State) : (s.moveEntry a f).hp.address = s.hp.address := by rw [State.moveEntry_hp]
@[simp] theorem State.suspect_address (j : Addr) (c : SuspectCause) (s : State) : (s.suspect j c).hp.address = s.hp.address := by
  unfold State.suspect; repeat' split
  all_goals first | rfl | simp
@[simp] theorem State.testEvidence_address (j : Addr) (s : State) : (s.testEvidence j).hp.address = s.hp.address := by
  unfold State.testEvidence; repeat' split
  all_goals first | rfl | simp
@[simp] theorem State.warnTimer_address (s : State) : (s.warnTimer).hp.address = s.hp.address := by
  unfold State.warnTimer; dsimp only; repeat' split
  all_goals first | rfl | simp
@[simp] theorem State.lapseTimer_address (s : State) : (s.lapseTimer).hp.address = s.hp.address := by
  unfold State.lapseTimer; dsimp only; repeat' split
  all_goals first | rfl | simp
@[simp] theorem State.endPulse_address (s : State) : (s.endPulse).hp.address = s.hp.address := by
  unfold State.endPulse; dsimp only; repeat' split
  all_goals first | rfl | simp
@[simp] theorem State.hold_address (s : State) : (s.hold).hp.address = s.hp.address := by
  simp [State.hold]
@[simp] theorem State.endWindow_address (s : State) : (s.endWindow).hp.address = s.hp.address := by
  unfold State.endWindow; repeat' split
  all_goals first | rfl | simp
@[simp] theorem State.countRecoveryRound_address (s : State) : (s.countRecoveryRound).hp.address = s.hp.address := by
  unfold State.countRecoveryRound; dsimp only; repeat' split
  all_goals first | rfl | simp
@[simp] theorem State.rejoin_address (s : State) : (s.rejoin).hp.address = s.hp.address := by
  unfold State.rejoin; dsimp only; repeat' split
  all_goals first | rfl | simp
@[simp] theorem State.releaseIfRequested_address (s : State) : (s.releaseIfRequested).hp.address = s.hp.address := by
  unfold State.releaseIfRequested; repeat' split
  all_goals first | rfl | simp
@[simp] theorem State.postLeaving_address (e : Event) (s : State) : (s.postLeaving e).hp.address = s.hp.address := by
  unfold State.postLeaving; repeat' split
  all_goals first | rfl | simp
@[simp] theorem State.depart_address (s : State) : (s.depart).hp.address = s.hp.address := by
  unfold State.depart; dsimp only; split <;> simp
@[simp] theorem State.deliver_address (s : State) : (s.deliver).hp.address = s.hp.address := by
  unfold State.deliver; dsimp only; repeat' split
  all_goals first | rfl | simp

@[simp] theorem State.setEntry_config (a : Addr) (e : Entry) (s : State) : (s.setEntry a e).hp.config = s.hp.config := by rw [State.setEntry_hp]
@[simp] theorem State.modifyEntry_config (a : Addr) (f : Entry → Entry) (s : State) : (s.modifyEntry a f).hp.config = s.hp.config := by rw [State.modifyEntry_hp]
@[simp] theorem State.dropAccusation_config (a : Addr) (s : State) : (s.dropAccusation a).hp.config = s.hp.config := by rw [State.dropAccusation_hp]
@[simp] theorem State.armTimer_config (s : State) : (s.armTimer).hp.config = s.hp.config := by rw [State.armTimer_hp]
@[simp] theorem State.disarmTimer_config (s : State) : (s.disarmTimer).hp.config = s.hp.config := by rw [State.disarmTimer_hp]
@[simp] theorem State.startAttempt_config (s : State) : (s.startAttempt).hp.config = s.hp.config := by
  simp [State.startAttempt]
@[simp] theorem State.releaseHost_config (s : State) : (s.releaseHost).hp.config = s.hp.config := by
  simp [State.releaseHost]
@[simp] theorem State.formVoters_config (s : State) : (s.formVoters).hp.config = s.hp.config := by rw [State.formVoters_hp]
@[simp] theorem State.recordOwnReport_config (s : State) : (s.recordOwnReport).hp.config = s.hp.config := by rw [State.recordOwnReport_hp]
@[simp] theorem State.startRound_config (d : Driving) (b : Bool) (s : State) : (s.startRound d b).hp.config = s.hp.config := by rw [State.startRound_hp]
@[simp] theorem State.leaveRounds_config (st : LineState) (s : State) : (s.leaveRounds st).hp.config = s.hp.config := by rw [State.leaveRounds_hp]
@[simp] theorem State.sampleField_config (c k : AddrSet) (s : State) : (s.sampleField c k).hp.config = s.hp.config := by rw [State.sampleField_hp]
@[simp] theorem State.answerWith_config (st : Status) (d : List Byte) (adv : Option Advance) (s : State) : (s.answerWith st d adv).hp.config = s.hp.config := rfl
@[simp] theorem State.answer_config (st : Status) (d : List Byte) (s : State) : (s.answer st d).hp.config = s.hp.config := rfl
@[simp] theorem State.deselect_config (s : State) : (s.deselect).hp.config = s.hp.config := rfl
@[simp] theorem State.count_config (s : State) : (s.count).hp.config = s.hp.config := by rw [State.count_hp]
@[simp] theorem State.countAccusations_config (k : Addr) (a : AddrSet) (s : State) : (s.countAccusations k a).hp.config = s.hp.config := by rw [State.countAccusations_hp]
@[simp] theorem State.moveEntry_config (a : Addr) (f : Entry → Entry) (s : State) : (s.moveEntry a f).hp.config = s.hp.config := by rw [State.moveEntry_hp]
@[simp] theorem State.suspect_config (j : Addr) (c : SuspectCause) (s : State) : (s.suspect j c).hp.config = s.hp.config := by
  unfold State.suspect; repeat' split
  all_goals first | rfl | simp
@[simp] theorem State.testEvidence_config (j : Addr) (s : State) : (s.testEvidence j).hp.config = s.hp.config := by
  unfold State.testEvidence; repeat' split
  all_goals first | rfl | simp
@[simp] theorem State.warnTimer_config (s : State) : (s.warnTimer).hp.config = s.hp.config := by
  unfold State.warnTimer; dsimp only; repeat' split
  all_goals first | rfl | simp
@[simp] theorem State.lapseTimer_config (s : State) : (s.lapseTimer).hp.config = s.hp.config := by
  unfold State.lapseTimer; dsimp only; repeat' split
  all_goals first | rfl | simp
@[simp] theorem State.endPulse_config (s : State) : (s.endPulse).hp.config = s.hp.config := by
  unfold State.endPulse; dsimp only; repeat' split
  all_goals first | rfl | simp
@[simp] theorem State.hold_config (s : State) : (s.hold).hp.config = s.hp.config := by
  simp [State.hold]
@[simp] theorem State.endWindow_config (s : State) : (s.endWindow).hp.config = s.hp.config := by
  unfold State.endWindow; repeat' split
  all_goals first | rfl | simp
@[simp] theorem State.countRecoveryRound_config (s : State) : (s.countRecoveryRound).hp.config = s.hp.config := by
  unfold State.countRecoveryRound; dsimp only; repeat' split
  all_goals first | rfl | simp
@[simp] theorem State.rejoin_config (s : State) : (s.rejoin).hp.config = s.hp.config := by
  unfold State.rejoin; dsimp only; repeat' split
  all_goals first | rfl | simp
@[simp] theorem State.releaseIfRequested_config (s : State) : (s.releaseIfRequested).hp.config = s.hp.config := by
  unfold State.releaseIfRequested; repeat' split
  all_goals first | rfl | simp
@[simp] theorem State.postLeaving_config (e : Event) (s : State) : (s.postLeaving e).hp.config = s.hp.config := by
  unfold State.postLeaving; repeat' split
  all_goals first | rfl | simp
@[simp] theorem State.depart_config (s : State) : (s.depart).hp.config = s.hp.config := by
  unfold State.depart; dsimp only; split <;> simp
@[simp] theorem State.deliver_config (s : State) : (s.deliver).hp.config = s.hp.config := by
  unfold State.deliver; dsimp only; repeat' split
  all_goals first | rfl | simp

/-! ### The View Unit's and the Line Unit's shared work -/

@[simp] theorem State.postChanges_lu (k : Addr) (old : Entry) (f : FrameBody) (s : State) : (s.postChanges k old f).lu = s.lu := by
  unfold State.postChanges; dsimp only; repeat' split
  all_goals rfl
@[simp] theorem State.postChanges_vu (k : Addr) (old : Entry) (f : FrameBody) (s : State) : (s.postChanges k old f).vu = s.vu := by
  unfold State.postChanges; dsimp only; repeat' split
  all_goals rfl
@[simp] theorem State.postChanges_pt (k : Addr) (old : Entry) (f : FrameBody) (s : State) : (s.postChanges k old f).pt = s.pt := by
  unfold State.postChanges; dsimp only; repeat' split
  all_goals rfl
@[simp] theorem State.postChanges_ru (k : Addr) (old : Entry) (f : FrameBody) (s : State) : (s.postChanges k old f).ru = s.ru := by
  unfold State.postChanges; dsimp only; repeat' split
  all_goals rfl
@[simp] theorem State.postChanges_cm (k : Addr) (old : Entry) (f : FrameBody) (s : State) : (s.postChanges k old f).cm = s.cm := by
  unfold State.postChanges; dsimp only; repeat' split
  all_goals rfl
@[simp] theorem State.postChanges_pending (k : Addr) (old : Entry) (f : FrameBody) (s : State) : (s.postChanges k old f).pending = s.pending := by
  unfold State.postChanges; dsimp only; repeat' split
  all_goals rfl
@[simp] theorem State.postChanges_ticks (k : Addr) (old : Entry) (f : FrameBody) (s : State) : (s.postChanges k old f).ticks = s.ticks := by
  unfold State.postChanges; dsimp only; repeat' split
  all_goals rfl

@[simp] theorem State.compareView_lu (k : Addr) (f : FrameBody) (b : Bool) (s : State) : (s.compareView k f b).lu = s.lu := by
  unfold State.compareView; dsimp only; repeat' split
  all_goals rfl
@[simp] theorem State.compareView_pt (k : Addr) (f : FrameBody) (b : Bool) (s : State) : (s.compareView k f b).pt = s.pt := by
  unfold State.compareView; dsimp only; repeat' split
  all_goals rfl
@[simp] theorem State.compareView_ru (k : Addr) (f : FrameBody) (b : Bool) (s : State) : (s.compareView k f b).ru = s.ru := by
  unfold State.compareView; dsimp only; repeat' split
  all_goals rfl
@[simp] theorem State.compareView_cm (k : Addr) (f : FrameBody) (b : Bool) (s : State) : (s.compareView k f b).cm = s.cm := by
  unfold State.compareView; dsimp only; repeat' split
  all_goals rfl
@[simp] theorem State.compareView_pending (k : Addr) (f : FrameBody) (b : Bool) (s : State) : (s.compareView k f b).pending = s.pending := by
  unfold State.compareView; dsimp only; repeat' split
  all_goals rfl
@[simp] theorem State.compareView_ticks (k : Addr) (f : FrameBody) (b : Bool) (s : State) : (s.compareView k f b).ticks = s.ticks := by
  unfold State.compareView; dsimp only; repeat' split
  all_goals rfl

@[simp] theorem State.condemnPeer_lu (j : Addr) (s : State) : (s.condemnPeer j).lu = s.lu := by
  simp [State.condemnPeer]
@[simp] theorem State.condemnPeer_pt (j : Addr) (s : State) : (s.condemnPeer j).pt = s.pt := by
  simp [State.condemnPeer]
@[simp] theorem State.condemnPeer_ru (j : Addr) (s : State) : (s.condemnPeer j).ru = s.ru := by
  simp [State.condemnPeer]
@[simp] theorem State.condemnPeer_cm (j : Addr) (s : State) : (s.condemnPeer j).cm = s.cm := by
  simp [State.condemnPeer]
@[simp] theorem State.condemnPeer_pending (j : Addr) (s : State) : (s.condemnPeer j).pending = s.pending := by
  simp [State.condemnPeer]
@[simp] theorem State.condemnPeer_ticks (j : Addr) (s : State) : (s.condemnPeer j).ticks = s.ticks := by
  simp [State.condemnPeer]

@[simp] theorem State.splitEntry_lu (j : Addr) (s : State) : (s.splitEntry j).lu = s.lu := by
  simp [State.splitEntry]
@[simp] theorem State.splitEntry_pt (j : Addr) (s : State) : (s.splitEntry j).pt = s.pt := by
  simp [State.splitEntry]
@[simp] theorem State.splitEntry_ru (j : Addr) (s : State) : (s.splitEntry j).ru = s.ru := by
  simp [State.splitEntry]
@[simp] theorem State.splitEntry_cm (j : Addr) (s : State) : (s.splitEntry j).cm = s.cm := by
  simp [State.splitEntry]
@[simp] theorem State.splitEntry_pending (j : Addr) (s : State) : (s.splitEntry j).pending = s.pending := by
  simp [State.splitEntry]
@[simp] theorem State.splitEntry_ticks (j : Addr) (s : State) : (s.splitEntry j).ticks = s.ticks := by
  simp [State.splitEntry]

@[simp] theorem State.clearEntry_lu (j : Addr) (s : State) : (s.clearEntry j).lu = s.lu := by
  unfold State.clearEntry; repeat' split
  all_goals rfl
@[simp] theorem State.clearEntry_pt (j : Addr) (s : State) : (s.clearEntry j).pt = s.pt := by
  unfold State.clearEntry; repeat' split
  all_goals rfl
@[simp] theorem State.clearEntry_ru (j : Addr) (s : State) : (s.clearEntry j).ru = s.ru := by
  unfold State.clearEntry; repeat' split
  all_goals rfl
@[simp] theorem State.clearEntry_cm (j : Addr) (s : State) : (s.clearEntry j).cm = s.cm := by
  unfold State.clearEntry; repeat' split
  all_goals rfl
@[simp] theorem State.clearEntry_pending (j : Addr) (s : State) : (s.clearEntry j).pending = s.pending := by
  unfold State.clearEntry; repeat' split
  all_goals rfl
@[simp] theorem State.clearEntry_ticks (j : Addr) (s : State) : (s.clearEntry j).ticks = s.ticks := by
  unfold State.clearEntry; repeat' split
  all_goals rfl

@[simp] theorem State.endSplits_lu (j : Addr) (s : State) : (s.endSplits j).lu = s.lu := rfl
@[simp] theorem State.endSplits_pt (j : Addr) (s : State) : (s.endSplits j).pt = s.pt := rfl
@[simp] theorem State.endSplits_ru (j : Addr) (s : State) : (s.endSplits j).ru = s.ru := rfl
@[simp] theorem State.endSplits_cm (j : Addr) (s : State) : (s.endSplits j).cm = s.cm := rfl
@[simp] theorem State.endSplits_hp (j : Addr) (s : State) : (s.endSplits j).hp = s.hp := rfl
@[simp] theorem State.endSplits_pending (j : Addr) (s : State) : (s.endSplits j).pending = s.pending := rfl
@[simp] theorem State.endSplits_ticks (j : Addr) (s : State) : (s.endSplits j).ticks = s.ticks := rfl

@[simp] theorem State.condemnOwn_lu (s : State) : (s.condemnOwn).lu = s.lu := by
  simp [State.condemnOwn]
@[simp] theorem State.condemnOwn_pending (s : State) : (s.condemnOwn).pending = s.pending := by
  simp [State.condemnOwn]
@[simp] theorem State.condemnOwn_ticks (s : State) : (s.condemnOwn).ticks = s.ticks := by
  simp [State.condemnOwn]

@[simp] theorem State.accountMiss_lu (j : Addr) (s : State) : (s.accountMiss j).lu = s.lu := by
  unfold State.accountMiss; dsimp only; repeat' split
  all_goals first | rfl | simp
@[simp] theorem State.accountMiss_pt (j : Addr) (s : State) : (s.accountMiss j).pt = s.pt := by
  unfold State.accountMiss; dsimp only; repeat' split
  all_goals first | rfl | simp
@[simp] theorem State.accountMiss_ru (j : Addr) (s : State) : (s.accountMiss j).ru = s.ru := by
  unfold State.accountMiss; dsimp only; repeat' split
  all_goals first | rfl | simp
@[simp] theorem State.accountMiss_cm (j : Addr) (s : State) : (s.accountMiss j).cm = s.cm := by
  unfold State.accountMiss; dsimp only; repeat' split
  all_goals first | rfl | simp
@[simp] theorem State.accountMiss_pending (j : Addr) (s : State) : (s.accountMiss j).pending = s.pending := by
  unfold State.accountMiss; dsimp only; repeat' split
  all_goals first | rfl | simp
@[simp] theorem State.accountMiss_ticks (j : Addr) (s : State) : (s.accountMiss j).ticks = s.ticks := by
  unfold State.accountMiss; dsimp only; repeat' split
  all_goals first | rfl | simp

@[simp] theorem State.applyVerdict_lu (c k : AddrSet) (j : Addr) (s : State) : (s.applyVerdict c k j).lu = s.lu := by
  unfold State.applyVerdict; repeat' split
  all_goals first | rfl | simp
@[simp] theorem State.applyVerdict_pending (c k : AddrSet) (j : Addr) (s : State) : (s.applyVerdict c k j).pending = s.pending := by
  unfold State.applyVerdict; repeat' split
  all_goals first | rfl | simp
@[simp] theorem State.applyVerdict_ticks (c k : AddrSet) (j : Addr) (s : State) : (s.applyVerdict c k j).ticks = s.ticks := by
  unfold State.applyVerdict; repeat' split
  all_goals first | rfl | simp

@[simp] theorem State.composeOwn_lu (s : State) : (s.composeOwn).lu = s.lu := by
  unfold State.composeOwn; dsimp only; split <;> simp
@[simp] theorem State.composeOwn_pt (s : State) : (s.composeOwn).pt = s.pt := by
  unfold State.composeOwn; dsimp only; split <;> simp
@[simp] theorem State.composeOwn_ru (s : State) : (s.composeOwn).ru = s.ru := by
  unfold State.composeOwn; dsimp only; split <;> simp
@[simp] theorem State.composeOwn_cm (s : State) : (s.composeOwn).cm = s.cm := by
  unfold State.composeOwn; dsimp only; split <;> simp
@[simp] theorem State.composeOwn_pending (s : State) : (s.composeOwn).pending = s.pending := by
  unfold State.composeOwn; dsimp only; split <;> simp
@[simp] theorem State.composeOwn_ticks (s : State) : (s.composeOwn).ticks = s.ticks := by
  unfold State.composeOwn; dsimp only; split <;> simp

@[simp] theorem State.takeAccusations_lu (k : Addr) (f : FrameBody) (s : State) : (s.takeAccusations k f).lu = s.lu := by
  unfold State.takeAccusations; dsimp only; rw [State.countAccusations_lu]; split
  · exact foldl_keeps (fun t : State => t.lu = s.lu) _ (fun t a h => by split <;> simp [h]) _ s rfl
  · rfl
@[simp] theorem State.takeAccusations_pt (k : Addr) (f : FrameBody) (s : State) : (s.takeAccusations k f).pt = s.pt := by
  unfold State.takeAccusations; dsimp only; rw [State.countAccusations_pt]; split
  · exact foldl_keeps (fun t : State => t.pt = s.pt) _ (fun t a h => by split <;> simp [h]) _ s rfl
  · rfl
@[simp] theorem State.takeAccusations_ru (k : Addr) (f : FrameBody) (s : State) : (s.takeAccusations k f).ru = s.ru := by
  unfold State.takeAccusations; dsimp only; rw [State.countAccusations_ru]; split
  · exact foldl_keeps (fun t : State => t.ru = s.ru) _ (fun t a h => by split <;> simp [h]) _ s rfl
  · rfl
@[simp] theorem State.takeAccusations_cm (k : Addr) (f : FrameBody) (s : State) : (s.takeAccusations k f).cm = s.cm := by
  unfold State.takeAccusations; dsimp only; rw [State.countAccusations_cm]; split
  · exact foldl_keeps (fun t : State => t.cm = s.cm) _ (fun t a h => by split <;> simp [h]) _ s rfl
  · rfl
@[simp] theorem State.takeAccusations_pending (k : Addr) (f : FrameBody) (s : State) : (s.takeAccusations k f).pending = s.pending := by
  unfold State.takeAccusations; dsimp only; rw [State.countAccusations_pending]; split
  · exact foldl_keeps (fun t : State => t.pending = s.pending) _ (fun t a h => by split <;> simp [h]) _ s rfl
  · rfl
@[simp] theorem State.takeAccusations_ticks (k : Addr) (f : FrameBody) (s : State) : (s.takeAccusations k f).ticks = s.ticks := by
  unfold State.takeAccusations; dsimp only; rw [State.countAccusations_ticks]; split
  · exact foldl_keeps (fun t : State => t.ticks = s.ticks) _ (fun t a h => by split <;> simp [h]) _ s rfl
  · rfl

@[simp] theorem State.adoptFrame_lu (m : FrameKind) (k : Addr) (f : FrameBody) (s : State) : (s.adoptFrame m k f).lu = s.lu := by
  unfold State.adoptFrame; dsimp only; repeat' split
  all_goals first | rfl | simp
@[simp] theorem State.adoptFrame_pt (m : FrameKind) (k : Addr) (f : FrameBody) (s : State) : (s.adoptFrame m k f).pt = s.pt := by
  unfold State.adoptFrame; dsimp only; repeat' split
  all_goals first | rfl | simp
@[simp] theorem State.adoptFrame_ru (m : FrameKind) (k : Addr) (f : FrameBody) (s : State) : (s.adoptFrame m k f).ru = s.ru := by
  unfold State.adoptFrame; dsimp only; repeat' split
  all_goals first | rfl | simp
@[simp] theorem State.adoptFrame_cm (m : FrameKind) (k : Addr) (f : FrameBody) (s : State) : (s.adoptFrame m k f).cm = s.cm := by
  unfold State.adoptFrame; dsimp only; repeat' split
  all_goals first | rfl | simp
@[simp] theorem State.adoptFrame_pending (m : FrameKind) (k : Addr) (f : FrameBody) (s : State) : (s.adoptFrame m k f).pending = s.pending := by
  unfold State.adoptFrame; dsimp only; repeat' split
  all_goals first | rfl | simp
@[simp] theorem State.adoptFrame_ticks (m : FrameKind) (k : Addr) (f : FrameBody) (s : State) : (s.adoptFrame m k f).ticks = s.ticks := by
  unfold State.adoptFrame; dsimp only; repeat' split
  all_goals first | rfl | simp

@[simp] theorem State.restartedEntry_lu (k : Addr) (f : FrameBody) (s : State) : (s.restartedEntry k f).lu = s.lu := by
  simp [State.restartedEntry]
@[simp] theorem State.restartedEntry_pt (k : Addr) (f : FrameBody) (s : State) : (s.restartedEntry k f).pt = s.pt := by
  simp [State.restartedEntry]
@[simp] theorem State.restartedEntry_ru (k : Addr) (f : FrameBody) (s : State) : (s.restartedEntry k f).ru = s.ru := by
  simp [State.restartedEntry]
@[simp] theorem State.restartedEntry_cm (k : Addr) (f : FrameBody) (s : State) : (s.restartedEntry k f).cm = s.cm := by
  simp [State.restartedEntry]
@[simp] theorem State.restartedEntry_pending (k : Addr) (f : FrameBody) (s : State) : (s.restartedEntry k f).pending = s.pending := by
  simp [State.restartedEntry]
@[simp] theorem State.restartedEntry_ticks (k : Addr) (f : FrameBody) (s : State) : (s.restartedEntry k f).ticks = s.ticks := by
  simp [State.restartedEntry]

@[simp] theorem State.heldEntry_lu (k : Addr) (f : FrameBody) (s : State) : (s.heldEntry k f).lu = s.lu := by
  simp [State.heldEntry]
@[simp] theorem State.heldEntry_pt (k : Addr) (f : FrameBody) (s : State) : (s.heldEntry k f).pt = s.pt := by
  simp [State.heldEntry]
@[simp] theorem State.heldEntry_ru (k : Addr) (f : FrameBody) (s : State) : (s.heldEntry k f).ru = s.ru := by
  simp [State.heldEntry]
@[simp] theorem State.heldEntry_cm (k : Addr) (f : FrameBody) (s : State) : (s.heldEntry k f).cm = s.cm := by
  simp [State.heldEntry]
@[simp] theorem State.heldEntry_pending (k : Addr) (f : FrameBody) (s : State) : (s.heldEntry k f).pending = s.pending := by
  simp [State.heldEntry]
@[simp] theorem State.heldEntry_ticks (k : Addr) (f : FrameBody) (s : State) : (s.heldEntry k f).ticks = s.ticks := by
  simp [State.heldEntry]

@[simp] theorem State.admitPeer_lu (k : Addr) (f : FrameBody) (s : State) : (s.admitPeer k f).lu = s.lu := by
  simp [State.admitPeer]
@[simp] theorem State.admitPeer_pt (k : Addr) (f : FrameBody) (s : State) : (s.admitPeer k f).pt = s.pt := by
  simp [State.admitPeer]
@[simp] theorem State.admitPeer_ru (k : Addr) (f : FrameBody) (s : State) : (s.admitPeer k f).ru = s.ru := by
  simp [State.admitPeer]
@[simp] theorem State.admitPeer_cm (k : Addr) (f : FrameBody) (s : State) : (s.admitPeer k f).cm = s.cm := by
  simp [State.admitPeer]
@[simp] theorem State.admitPeer_pending (k : Addr) (f : FrameBody) (s : State) : (s.admitPeer k f).pending = s.pending := by
  simp [State.admitPeer]
@[simp] theorem State.admitPeer_ticks (k : Addr) (f : FrameBody) (s : State) : (s.admitPeer k f).ticks = s.ticks := by
  simp [State.admitPeer]

@[simp] theorem State.announceFromAbsent_lu (k : Addr) (f : FrameBody) (s : State) : (s.announceFromAbsent k f).lu = s.lu := by
  unfold State.announceFromAbsent; dsimp only; repeat' split
  all_goals rfl
@[simp] theorem State.announceFromAbsent_pt (k : Addr) (f : FrameBody) (s : State) : (s.announceFromAbsent k f).pt = s.pt := by
  unfold State.announceFromAbsent; dsimp only; repeat' split
  all_goals rfl
@[simp] theorem State.announceFromAbsent_ru (k : Addr) (f : FrameBody) (s : State) : (s.announceFromAbsent k f).ru = s.ru := by
  unfold State.announceFromAbsent; dsimp only; repeat' split
  all_goals rfl
@[simp] theorem State.announceFromAbsent_cm (k : Addr) (f : FrameBody) (s : State) : (s.announceFromAbsent k f).cm = s.cm := by
  unfold State.announceFromAbsent; dsimp only; repeat' split
  all_goals rfl
@[simp] theorem State.announceFromAbsent_pending (k : Addr) (f : FrameBody) (s : State) : (s.announceFromAbsent k f).pending = s.pending := by
  unfold State.announceFromAbsent; dsimp only; repeat' split
  all_goals rfl
@[simp] theorem State.announceFromAbsent_ticks (k : Addr) (f : FrameBody) (s : State) : (s.announceFromAbsent k f).ticks = s.ticks := by
  unfold State.announceFromAbsent; dsimp only; repeat' split
  all_goals rfl

@[simp] theorem State.announceFromJoining_lu (k : Addr) (f : FrameBody) (s : State) : (s.announceFromJoining k f).lu = s.lu := by
  unfold State.announceFromJoining; repeat' split
  all_goals first | rfl | simp
@[simp] theorem State.announceFromJoining_pt (k : Addr) (f : FrameBody) (s : State) : (s.announceFromJoining k f).pt = s.pt := by
  unfold State.announceFromJoining; repeat' split
  all_goals first | rfl | simp
@[simp] theorem State.announceFromJoining_ru (k : Addr) (f : FrameBody) (s : State) : (s.announceFromJoining k f).ru = s.ru := by
  unfold State.announceFromJoining; repeat' split
  all_goals first | rfl | simp
@[simp] theorem State.announceFromJoining_cm (k : Addr) (f : FrameBody) (s : State) : (s.announceFromJoining k f).cm = s.cm := by
  unfold State.announceFromJoining; repeat' split
  all_goals first | rfl | simp
@[simp] theorem State.announceFromJoining_pending (k : Addr) (f : FrameBody) (s : State) : (s.announceFromJoining k f).pending = s.pending := by
  unfold State.announceFromJoining; repeat' split
  all_goals first | rfl | simp
@[simp] theorem State.announceFromJoining_ticks (k : Addr) (f : FrameBody) (s : State) : (s.announceFromJoining k f).ticks = s.ticks := by
  unfold State.announceFromJoining; repeat' split
  all_goals first | rfl | simp

@[simp] theorem State.announceFromMember_lu (k : Addr) (f : FrameBody) (s : State) : (s.announceFromMember k f).lu = s.lu := by
  unfold State.announceFromMember; dsimp only; repeat' split
  all_goals first | rfl | simp
@[simp] theorem State.announceFromMember_pt (k : Addr) (f : FrameBody) (s : State) : (s.announceFromMember k f).pt = s.pt := by
  unfold State.announceFromMember; dsimp only; repeat' split
  all_goals first | rfl | simp
@[simp] theorem State.announceFromMember_ru (k : Addr) (f : FrameBody) (s : State) : (s.announceFromMember k f).ru = s.ru := by
  unfold State.announceFromMember; dsimp only; repeat' split
  all_goals first | rfl | simp
@[simp] theorem State.announceFromMember_cm (k : Addr) (f : FrameBody) (s : State) : (s.announceFromMember k f).cm = s.cm := by
  unfold State.announceFromMember; dsimp only; repeat' split
  all_goals first | rfl | simp
@[simp] theorem State.announceFromMember_pending (k : Addr) (f : FrameBody) (s : State) : (s.announceFromMember k f).pending = s.pending := by
  unfold State.announceFromMember; dsimp only; repeat' split
  all_goals first | rfl | simp
@[simp] theorem State.announceFromMember_ticks (k : Addr) (f : FrameBody) (s : State) : (s.announceFromMember k f).ticks = s.ticks := by
  unfold State.announceFromMember; dsimp only; repeat' split
  all_goals first | rfl | simp

@[simp] theorem State.applyAnnounce_lu (k : Addr) (f : FrameBody) (s : State) : (s.applyAnnounce k f).lu = s.lu := by
  unfold State.applyAnnounce; repeat' split
  all_goals first | rfl | simp
@[simp] theorem State.applyAnnounce_pt (k : Addr) (f : FrameBody) (s : State) : (s.applyAnnounce k f).pt = s.pt := by
  unfold State.applyAnnounce; repeat' split
  all_goals first | rfl | simp
@[simp] theorem State.applyAnnounce_ru (k : Addr) (f : FrameBody) (s : State) : (s.applyAnnounce k f).ru = s.ru := by
  unfold State.applyAnnounce; repeat' split
  all_goals first | rfl | simp
@[simp] theorem State.applyAnnounce_cm (k : Addr) (f : FrameBody) (s : State) : (s.applyAnnounce k f).cm = s.cm := by
  unfold State.applyAnnounce; repeat' split
  all_goals first | rfl | simp
@[simp] theorem State.applyAnnounce_pending (k : Addr) (f : FrameBody) (s : State) : (s.applyAnnounce k f).pending = s.pending := by
  unfold State.applyAnnounce; repeat' split
  all_goals first | rfl | simp
@[simp] theorem State.applyAnnounce_ticks (k : Addr) (f : FrameBody) (s : State) : (s.applyAnnounce k f).ticks = s.ticks := by
  unfold State.applyAnnounce; repeat' split
  all_goals first | rfl | simp

@[simp] theorem State.countJoin_lu (k : Addr) (f : FrameBody) (s : State) : (s.countJoin k f).lu = s.lu := by
  unfold State.countJoin; dsimp only; repeat' split
  all_goals first | rfl | simp
@[simp] theorem State.countJoin_pt (k : Addr) (f : FrameBody) (s : State) : (s.countJoin k f).pt = s.pt := by
  unfold State.countJoin; dsimp only; repeat' split
  all_goals first | rfl | simp
@[simp] theorem State.countJoin_ru (k : Addr) (f : FrameBody) (s : State) : (s.countJoin k f).ru = s.ru := by
  unfold State.countJoin; dsimp only; repeat' split
  all_goals first | rfl | simp
@[simp] theorem State.countJoin_cm (k : Addr) (f : FrameBody) (s : State) : (s.countJoin k f).cm = s.cm := by
  unfold State.countJoin; dsimp only; repeat' split
  all_goals first | rfl | simp
@[simp] theorem State.countJoin_pending (k : Addr) (f : FrameBody) (s : State) : (s.countJoin k f).pending = s.pending := by
  unfold State.countJoin; dsimp only; repeat' split
  all_goals first | rfl | simp
@[simp] theorem State.countJoin_ticks (k : Addr) (f : FrameBody) (s : State) : (s.countJoin k f).ticks = s.ticks := by
  unfold State.countJoin; dsimp only; repeat' split
  all_goals first | rfl | simp

@[simp] theorem State.restartPeer_lu (k : Addr) (f : FrameBody) (s : State) : (s.restartPeer k f).lu = s.lu := by
  simp [State.restartPeer]
@[simp] theorem State.restartPeer_pt (k : Addr) (f : FrameBody) (s : State) : (s.restartPeer k f).pt = s.pt := by
  simp [State.restartPeer]
@[simp] theorem State.restartPeer_ru (k : Addr) (f : FrameBody) (s : State) : (s.restartPeer k f).ru = s.ru := by
  simp [State.restartPeer]
@[simp] theorem State.restartPeer_cm (k : Addr) (f : FrameBody) (s : State) : (s.restartPeer k f).cm = s.cm := by
  simp [State.restartPeer]
@[simp] theorem State.restartPeer_pending (k : Addr) (f : FrameBody) (s : State) : (s.restartPeer k f).pending = s.pending := by
  simp [State.restartPeer]
@[simp] theorem State.restartPeer_ticks (k : Addr) (f : FrameBody) (s : State) : (s.restartPeer k f).ticks = s.ticks := by
  simp [State.restartPeer]

@[simp] theorem State.beginAdmission_lu (k : Addr) (f : FrameBody) (s : State) : (s.beginAdmission k f).lu = s.lu := by
  unfold State.beginAdmission; simp
@[simp] theorem State.beginAdmission_pt (k : Addr) (f : FrameBody) (s : State) : (s.beginAdmission k f).pt = s.pt := by
  unfold State.beginAdmission; simp
@[simp] theorem State.beginAdmission_ru (k : Addr) (f : FrameBody) (s : State) : (s.beginAdmission k f).ru = s.ru := by
  unfold State.beginAdmission; simp
@[simp] theorem State.beginAdmission_cm (k : Addr) (f : FrameBody) (s : State) : (s.beginAdmission k f).cm = s.cm := by
  unfold State.beginAdmission; simp
@[simp] theorem State.beginAdmission_pending (k : Addr) (f : FrameBody) (s : State) : (s.beginAdmission k f).pending = s.pending := by
  unfold State.beginAdmission; simp
@[simp] theorem State.beginAdmission_ticks (k : Addr) (f : FrameBody) (s : State) : (s.beginAdmission k f).ticks = s.ticks := by
  unfold State.beginAdmission; simp

@[simp] theorem State.applyJoin_lu (k : Addr) (f : FrameBody) (s : State) : (s.applyJoin k f).lu = s.lu := by
  unfold State.applyJoin; repeat' split
  all_goals first | rfl | simp
@[simp] theorem State.applyJoin_pt (k : Addr) (f : FrameBody) (s : State) : (s.applyJoin k f).pt = s.pt := by
  unfold State.applyJoin; repeat' split
  all_goals first | rfl | simp
@[simp] theorem State.applyJoin_ru (k : Addr) (f : FrameBody) (s : State) : (s.applyJoin k f).ru = s.ru := by
  unfold State.applyJoin; repeat' split
  all_goals first | rfl | simp
@[simp] theorem State.applyJoin_cm (k : Addr) (f : FrameBody) (s : State) : (s.applyJoin k f).cm = s.cm := by
  unfold State.applyJoin; repeat' split
  all_goals first | rfl | simp
@[simp] theorem State.applyJoin_pending (k : Addr) (f : FrameBody) (s : State) : (s.applyJoin k f).pending = s.pending := by
  unfold State.applyJoin; repeat' split
  all_goals first | rfl | simp
@[simp] theorem State.applyJoin_ticks (k : Addr) (f : FrameBody) (s : State) : (s.applyJoin k f).ticks = s.ticks := by
  unfold State.applyJoin; repeat' split
  all_goals first | rfl | simp

@[simp] theorem State.applyLeave_lu (k : Addr) (f : FrameBody) (s : State) : (s.applyLeave k f).lu = s.lu := by
  unfold State.applyLeave; dsimp only; repeat' split
  all_goals first | rfl | simp
@[simp] theorem State.applyLeave_pt (k : Addr) (f : FrameBody) (s : State) : (s.applyLeave k f).pt = s.pt := by
  unfold State.applyLeave; dsimp only; repeat' split
  all_goals first | rfl | simp
@[simp] theorem State.applyLeave_ru (k : Addr) (f : FrameBody) (s : State) : (s.applyLeave k f).ru = s.ru := by
  unfold State.applyLeave; dsimp only; repeat' split
  all_goals first | rfl | simp
@[simp] theorem State.applyLeave_cm (k : Addr) (f : FrameBody) (s : State) : (s.applyLeave k f).cm = s.cm := by
  unfold State.applyLeave; dsimp only; repeat' split
  all_goals first | rfl | simp
@[simp] theorem State.applyLeave_pending (k : Addr) (f : FrameBody) (s : State) : (s.applyLeave k f).pending = s.pending := by
  unfold State.applyLeave; dsimp only; repeat' split
  all_goals first | rfl | simp
@[simp] theorem State.applyLeave_ticks (k : Addr) (f : FrameBody) (s : State) : (s.applyLeave k f).ticks = s.ticks := by
  unfold State.applyLeave; dsimp only; repeat' split
  all_goals first | rfl | simp

@[simp] theorem State.applyFrame_lu (m : FrameKind) (k : Addr) (f : FrameBody) (s : State) : (s.applyFrame m k f).lu = s.lu := by
  unfold State.applyFrame; dsimp only; repeat' split
  all_goals first | rfl | simp
@[simp] theorem State.applyFrame_pt (m : FrameKind) (k : Addr) (f : FrameBody) (s : State) : (s.applyFrame m k f).pt = s.pt := by
  unfold State.applyFrame; dsimp only; repeat' split
  all_goals first | rfl | simp
@[simp] theorem State.applyFrame_ru (m : FrameKind) (k : Addr) (f : FrameBody) (s : State) : (s.applyFrame m k f).ru = s.ru := by
  unfold State.applyFrame; dsimp only; repeat' split
  all_goals first | rfl | simp
@[simp] theorem State.applyFrame_cm (m : FrameKind) (k : Addr) (f : FrameBody) (s : State) : (s.applyFrame m k f).cm = s.cm := by
  unfold State.applyFrame; dsimp only; repeat' split
  all_goals first | rfl | simp
@[simp] theorem State.applyFrame_pending (m : FrameKind) (k : Addr) (f : FrameBody) (s : State) : (s.applyFrame m k f).pending = s.pending := by
  unfold State.applyFrame; dsimp only; repeat' split
  all_goals first | rfl | simp
@[simp] theorem State.applyFrame_ticks (m : FrameKind) (k : Addr) (f : FrameBody) (s : State) : (s.applyFrame m k f).ticks = s.ticks := by
  unfold State.applyFrame; dsimp only; repeat' split
  all_goals first | rfl | simp

@[simp] theorem State.applyForeign_lu (k : Addr) (d : Word16) (s : State) : (s.applyForeign k d).lu = s.lu := by
  unfold State.applyForeign; dsimp only; repeat' split
  all_goals rfl
@[simp] theorem State.applyForeign_pt (k : Addr) (d : Word16) (s : State) : (s.applyForeign k d).pt = s.pt := by
  unfold State.applyForeign; dsimp only; repeat' split
  all_goals rfl
@[simp] theorem State.applyForeign_ru (k : Addr) (d : Word16) (s : State) : (s.applyForeign k d).ru = s.ru := by
  unfold State.applyForeign; dsimp only; repeat' split
  all_goals rfl
@[simp] theorem State.applyForeign_cm (k : Addr) (d : Word16) (s : State) : (s.applyForeign k d).cm = s.cm := by
  unfold State.applyForeign; dsimp only; repeat' split
  all_goals rfl
@[simp] theorem State.applyForeign_pending (k : Addr) (d : Word16) (s : State) : (s.applyForeign k d).pending = s.pending := by
  unfold State.applyForeign; dsimp only; repeat' split
  all_goals rfl
@[simp] theorem State.applyForeign_ticks (k : Addr) (d : Word16) (s : State) : (s.applyForeign k d).ticks = s.ticks := by
  unfold State.applyForeign; dsimp only; repeat' split
  all_goals rfl

@[simp] theorem State.applyOutOfStep_lu (k : Addr) (s : State) : (s.applyOutOfStep k).lu = s.lu := rfl
@[simp] theorem State.applyOutOfStep_pt (k : Addr) (s : State) : (s.applyOutOfStep k).pt = s.pt := rfl
@[simp] theorem State.applyOutOfStep_ru (k : Addr) (s : State) : (s.applyOutOfStep k).ru = s.ru := rfl
@[simp] theorem State.applyOutOfStep_cm (k : Addr) (s : State) : (s.applyOutOfStep k).cm = s.cm := rfl
@[simp] theorem State.applyOutOfStep_hp (k : Addr) (s : State) : (s.applyOutOfStep k).hp = s.hp := rfl
@[simp] theorem State.applyOutOfStep_pending (k : Addr) (s : State) : (s.applyOutOfStep k).pending = s.pending := rfl
@[simp] theorem State.applyOutOfStep_ticks (k : Addr) (s : State) : (s.applyOutOfStep k).ticks = s.ticks := rfl

@[simp] theorem State.takeFrame_pt (m : FrameKind) (k : Addr) (f : FrameBody) (s : State) : (s.takeFrame m k f).pt = s.pt := by
  unfold State.takeFrame; dsimp only; repeat' split
  all_goals first | rfl | simp
@[simp] theorem State.takeFrame_ru (m : FrameKind) (k : Addr) (f : FrameBody) (s : State) : (s.takeFrame m k f).ru = s.ru := by
  unfold State.takeFrame; dsimp only; repeat' split
  all_goals first | rfl | simp
@[simp] theorem State.takeFrame_cm (m : FrameKind) (k : Addr) (f : FrameBody) (s : State) : (s.takeFrame m k f).cm = s.cm := by
  unfold State.takeFrame; dsimp only; repeat' split
  all_goals first | rfl | simp
@[simp] theorem State.takeFrame_pending (m : FrameKind) (k : Addr) (f : FrameBody) (s : State) : (s.takeFrame m k f).pending = s.pending := by
  unfold State.takeFrame; dsimp only; repeat' split
  all_goals first | rfl | simp
@[simp] theorem State.takeFrame_ticks (m : FrameKind) (k : Addr) (f : FrameBody) (s : State) : (s.takeFrame m k f).ticks = s.ticks := by
  unfold State.takeFrame; dsimp only; repeat' split
  all_goals first | rfl | simp

@[simp] theorem State.completeAdmission_lu (s : State) : (s.completeAdmission).lu = s.lu := by
  unfold State.completeAdmission; dsimp only
  exact foldl_keeps (fun t : State => t.lu = s.lu) _ (fun t a h => by simp [h]) _ _ (by simp)
@[simp] theorem State.completeAdmission_ru (s : State) : (s.completeAdmission).ru = s.ru := by
  unfold State.completeAdmission; dsimp only
  exact foldl_keeps (fun t : State => t.ru = s.ru) _ (fun t a h => by simp [h]) _ _ (by simp)
@[simp] theorem State.completeAdmission_cm (s : State) : (s.completeAdmission).cm = s.cm := by
  unfold State.completeAdmission; dsimp only
  exact foldl_keeps (fun t : State => t.cm = s.cm) _ (fun t a h => by simp [h]) _ _ (by simp)
@[simp] theorem State.completeAdmission_pending (s : State) : (s.completeAdmission).pending = s.pending := by
  unfold State.completeAdmission; dsimp only
  exact foldl_keeps (fun t : State => t.pending = s.pending) _ (fun t a h => by simp [h]) _ _ (by simp)
@[simp] theorem State.completeAdmission_ticks (s : State) : (s.completeAdmission).ticks = s.ticks := by
  unfold State.completeAdmission; dsimp only
  exact foldl_keeps (fun t : State => t.ticks = s.ticks) _ (fun t a h => by simp [h]) _ _ (by simp)

@[simp] theorem State.admissionStep_lu (s : State) : (s.admissionStep).lu = s.lu := by
  unfold State.admissionStep; dsimp only; repeat' split
  all_goals simp
@[simp] theorem State.admissionStep_ru (s : State) : (s.admissionStep).ru = s.ru := by
  unfold State.admissionStep; dsimp only; repeat' split
  all_goals simp
@[simp] theorem State.admissionStep_cm (s : State) : (s.admissionStep).cm = s.cm := by
  unfold State.admissionStep; dsimp only; repeat' split
  all_goals simp
@[simp] theorem State.admissionStep_pending (s : State) : (s.admissionStep).pending = s.pending := by
  unfold State.admissionStep; dsimp only; repeat' split
  all_goals simp
@[simp] theorem State.admissionStep_ticks (s : State) : (s.admissionStep).ticks = s.ticks := by
  unfold State.admissionStep; dsimp only; repeat' split
  all_goals simp

@[simp] theorem State.roundEndWork_lu (b : Bool) (s : State) : (s.roundEndWork b).lu = s.lu := by
  unfold State.roundEndWork; dsimp only
  rw [State.admissionStep_lu]
  refine foldl_keeps (fun t : State => t.lu = s.lu) _ (fun t a h => by simp [h]) _ _ ?_
  split
  · rfl
  · exact foldl_keeps (fun t : State => t.lu = s.lu) _ (fun t a h => by simp [h]) _ _ rfl
@[simp] theorem State.roundEndWork_pending (b : Bool) (s : State) : (s.roundEndWork b).pending = s.pending := by
  unfold State.roundEndWork; dsimp only
  rw [State.admissionStep_pending]
  refine foldl_keeps (fun t : State => t.pending = s.pending) _ (fun t a h => by simp [h]) _ _ ?_
  split
  · rfl
  · exact foldl_keeps (fun t : State => t.pending = s.pending) _ (fun t a h => by simp [h]) _ _ rfl
@[simp] theorem State.roundEndWork_ticks (b : Bool) (s : State) : (s.roundEndWork b).ticks = s.ticks := by
  unfold State.roundEndWork; dsimp only
  rw [State.admissionStep_ticks]
  refine foldl_keeps (fun t : State => t.ticks = s.ticks) _ (fun t a h => by simp [h]) _ _ ?_
  split
  · rfl
  · exact foldl_keeps (fun t : State => t.ticks = s.ticks) _ (fun t a h => by simp [h]) _ _ rfl

@[simp] theorem State.resync_vu (s : State) : (s.resync).vu = s.vu := by
  unfold State.resync; dsimp only; repeat' split
  all_goals rfl
@[simp] theorem State.resync_pt (s : State) : (s.resync).pt = s.pt := by
  unfold State.resync; dsimp only; repeat' split
  all_goals rfl
@[simp] theorem State.resync_ru (s : State) : (s.resync).ru = s.ru := by
  unfold State.resync; dsimp only; repeat' split
  all_goals rfl
@[simp] theorem State.resync_cm (s : State) : (s.resync).cm = s.cm := by
  unfold State.resync; dsimp only; repeat' split
  all_goals rfl
@[simp] theorem State.resync_pending (s : State) : (s.resync).pending = s.pending := by
  unfold State.resync; dsimp only; repeat' split
  all_goals rfl
@[simp] theorem State.resync_ticks (s : State) : (s.resync).ticks = s.ticks := by
  unfold State.resync; dsimp only; repeat' split
  all_goals rfl

@[simp] theorem State.withdrawBlocked_lu (s : State) : (s.withdrawBlocked).lu = s.lu := by
  unfold State.withdrawBlocked; dsimp only; split <;> simp
@[simp] theorem State.withdrawBlocked_ru (s : State) : (s.withdrawBlocked).ru = s.ru := by
  unfold State.withdrawBlocked; dsimp only; split <;> simp
@[simp] theorem State.withdrawBlocked_cm (s : State) : (s.withdrawBlocked).cm = s.cm := by
  unfold State.withdrawBlocked; dsimp only; split <;> simp
@[simp] theorem State.withdrawBlocked_pending (s : State) : (s.withdrawBlocked).pending = s.pending := by
  unfold State.withdrawBlocked; dsimp only; split <;> simp
@[simp] theorem State.withdrawBlocked_ticks (s : State) : (s.withdrawBlocked).ticks = s.ticks := by
  unfold State.withdrawBlocked; dsimp only; split <;> simp

@[simp] theorem State.beginRound_pt (d : Driving) (s : State) : (s.beginRound d).pt = s.pt := by
  simp [State.beginRound]
@[simp] theorem State.beginRound_cm (d : Driving) (s : State) : (s.beginRound d).cm = s.cm := by
  simp [State.beginRound]
@[simp] theorem State.beginRound_pending (d : Driving) (s : State) : (s.beginRound d).pending = s.pending := by
  simp [State.beginRound]
@[simp] theorem State.beginRound_ticks (d : Driving) (s : State) : (s.beginRound d).ticks = s.ticks := by
  simp [State.beginRound]

@[simp] theorem State.enterSynced_pt (d : Driving) (w : WayOfEntry) (s : State) : (s.enterSynced d w).pt = s.pt := by
  unfold State.enterSynced; dsimp only; repeat' split
  all_goals first | rfl | simp
@[simp] theorem State.enterSynced_cm (d : Driving) (w : WayOfEntry) (s : State) : (s.enterSynced d w).cm = s.cm := by
  unfold State.enterSynced; dsimp only; repeat' split
  all_goals first | rfl | simp
@[simp] theorem State.enterSynced_pending (d : Driving) (w : WayOfEntry) (s : State) : (s.enterSynced d w).pending = s.pending := by
  unfold State.enterSynced; dsimp only; repeat' split
  all_goals first | rfl | simp
@[simp] theorem State.enterSynced_ticks (d : Driving) (w : WayOfEntry) (s : State) : (s.enterSynced d w).ticks = s.ticks := by
  unfold State.enterSynced; dsimp only; repeat' split
  all_goals first | rfl | simp

@[simp] theorem State.postChanges_address (k : Addr) (old : Entry) (f : FrameBody) (s : State) : (s.postChanges k old f).hp.address = s.hp.address := by
  unfold State.postChanges; dsimp only; repeat' split
  all_goals first | rfl | simp
@[simp] theorem State.compareView_address (k : Addr) (f : FrameBody) (b : Bool) (s : State) : (s.compareView k f b).hp.address = s.hp.address := by
  unfold State.compareView; dsimp only; repeat' split
  all_goals first | rfl | simp
@[simp] theorem State.condemnPeer_address (j : Addr) (s : State) : (s.condemnPeer j).hp.address = s.hp.address := by
  simp [State.condemnPeer]
@[simp] theorem State.splitEntry_address (j : Addr) (s : State) : (s.splitEntry j).hp.address = s.hp.address := by
  simp [State.splitEntry]
@[simp] theorem State.clearEntry_address (j : Addr) (s : State) : (s.clearEntry j).hp.address = s.hp.address := by
  unfold State.clearEntry; repeat' split
  all_goals first | rfl | simp
@[simp] theorem State.endSplits_address (j : Addr) (s : State) : (s.endSplits j).hp.address = s.hp.address := by rw [State.endSplits_hp]
@[simp] theorem State.condemnOwn_address (s : State) : (s.condemnOwn).hp.address = s.hp.address := by
  simp [State.condemnOwn]
@[simp] theorem State.accountMiss_address (j : Addr) (s : State) : (s.accountMiss j).hp.address = s.hp.address := by
  unfold State.accountMiss; dsimp only; repeat' split
  all_goals first | rfl | simp
@[simp] theorem State.applyVerdict_address (c k : AddrSet) (j : Addr) (s : State) : (s.applyVerdict c k j).hp.address = s.hp.address := by
  unfold State.applyVerdict; repeat' split
  all_goals first | rfl | simp
@[simp] theorem State.composeOwn_address (s : State) : (s.composeOwn).hp.address = s.hp.address := by
  unfold State.composeOwn; dsimp only; split <;> simp
@[simp] theorem State.takeAccusations_address (k : Addr) (f : FrameBody) (s : State) : (s.takeAccusations k f).hp.address = s.hp.address := by
  unfold State.takeAccusations; dsimp only; rw [State.countAccusations_address]; split
  · exact foldl_keeps (fun t : State => t.hp.address = s.hp.address) _ (fun t a h => by split <;> simp [h]) _ s rfl
  · rfl
@[simp] theorem State.adoptFrame_address (m : FrameKind) (k : Addr) (f : FrameBody) (s : State) : (s.adoptFrame m k f).hp.address = s.hp.address := by
  unfold State.adoptFrame; dsimp only; repeat' split
  all_goals first | rfl | simp
@[simp] theorem State.restartedEntry_address (k : Addr) (f : FrameBody) (s : State) : (s.restartedEntry k f).hp.address = s.hp.address := by
  simp [State.restartedEntry]
@[simp] theorem State.heldEntry_address (k : Addr) (f : FrameBody) (s : State) : (s.heldEntry k f).hp.address = s.hp.address := by
  simp [State.heldEntry]
@[simp] theorem State.admitPeer_address (k : Addr) (f : FrameBody) (s : State) : (s.admitPeer k f).hp.address = s.hp.address := by
  simp [State.admitPeer]
@[simp] theorem State.announceFromAbsent_address (k : Addr) (f : FrameBody) (s : State) : (s.announceFromAbsent k f).hp.address = s.hp.address := by
  unfold State.announceFromAbsent; dsimp only; repeat' split
  all_goals first | rfl | simp
@[simp] theorem State.announceFromJoining_address (k : Addr) (f : FrameBody) (s : State) : (s.announceFromJoining k f).hp.address = s.hp.address := by
  unfold State.announceFromJoining; repeat' split
  all_goals first | rfl | simp
@[simp] theorem State.announceFromMember_address (k : Addr) (f : FrameBody) (s : State) : (s.announceFromMember k f).hp.address = s.hp.address := by
  unfold State.announceFromMember; dsimp only; repeat' split
  all_goals first | rfl | simp
@[simp] theorem State.applyAnnounce_address (k : Addr) (f : FrameBody) (s : State) : (s.applyAnnounce k f).hp.address = s.hp.address := by
  unfold State.applyAnnounce; repeat' split
  all_goals first | rfl | simp
@[simp] theorem State.countJoin_address (k : Addr) (f : FrameBody) (s : State) : (s.countJoin k f).hp.address = s.hp.address := by
  unfold State.countJoin; dsimp only; repeat' split
  all_goals first | rfl | simp
@[simp] theorem State.restartPeer_address (k : Addr) (f : FrameBody) (s : State) : (s.restartPeer k f).hp.address = s.hp.address := by
  simp [State.restartPeer]
@[simp] theorem State.beginAdmission_address (k : Addr) (f : FrameBody) (s : State) : (s.beginAdmission k f).hp.address = s.hp.address := by
  unfold State.beginAdmission; simp
@[simp] theorem State.applyJoin_address (k : Addr) (f : FrameBody) (s : State) : (s.applyJoin k f).hp.address = s.hp.address := by
  unfold State.applyJoin; repeat' split
  all_goals first | rfl | simp
@[simp] theorem State.applyLeave_address (k : Addr) (f : FrameBody) (s : State) : (s.applyLeave k f).hp.address = s.hp.address := by
  unfold State.applyLeave; dsimp only; repeat' split
  all_goals first | rfl | simp
@[simp] theorem State.applyFrame_address (m : FrameKind) (k : Addr) (f : FrameBody) (s : State) : (s.applyFrame m k f).hp.address = s.hp.address := by
  unfold State.applyFrame; dsimp only; repeat' split
  all_goals first | rfl | simp
@[simp] theorem State.applyForeign_address (k : Addr) (d : Word16) (s : State) : (s.applyForeign k d).hp.address = s.hp.address := by
  unfold State.applyForeign; dsimp only; repeat' split
  all_goals first | rfl | simp
@[simp] theorem State.applyOutOfStep_address (k : Addr) (s : State) : (s.applyOutOfStep k).hp.address = s.hp.address := by rw [State.applyOutOfStep_hp]
@[simp] theorem State.takeFrame_address (m : FrameKind) (k : Addr) (f : FrameBody) (s : State) : (s.takeFrame m k f).hp.address = s.hp.address := by
  unfold State.takeFrame; dsimp only; repeat' split
  all_goals first | rfl | simp
@[simp] theorem State.completeAdmission_address (s : State) : (s.completeAdmission).hp.address = s.hp.address := by
  unfold State.completeAdmission; dsimp only
  exact foldl_keeps (fun t : State => t.hp.address = s.hp.address) _ (fun t a h => by simp [h]) _ _ (by simp)
@[simp] theorem State.admissionStep_address (s : State) : (s.admissionStep).hp.address = s.hp.address := by
  unfold State.admissionStep; dsimp only; repeat' split
  all_goals simp
@[simp] theorem State.roundEndWork_address (b : Bool) (s : State) : (s.roundEndWork b).hp.address = s.hp.address := by
  unfold State.roundEndWork; dsimp only
  rw [State.admissionStep_address]
  refine foldl_keeps (fun t : State => t.hp.address = s.hp.address) _ (fun t a h => by simp [h]) _ _ ?_
  split
  · rfl
  · exact foldl_keeps (fun t : State => t.hp.address = s.hp.address) _ (fun t a h => by simp [h]) _ _ rfl
@[simp] theorem State.resync_address (s : State) : (s.resync).hp.address = s.hp.address := by
  unfold State.resync; dsimp only; repeat' split
  all_goals first | rfl | simp
@[simp] theorem State.withdrawBlocked_address (s : State) : (s.withdrawBlocked).hp.address = s.hp.address := by
  unfold State.withdrawBlocked; dsimp only; split <;> simp
@[simp] theorem State.beginRound_address (d : Driving) (s : State) : (s.beginRound d).hp.address = s.hp.address := by
  simp [State.beginRound]
@[simp] theorem State.enterSynced_address (d : Driving) (w : WayOfEntry) (s : State) : (s.enterSynced d w).hp.address = s.hp.address := by
  unfold State.enterSynced; dsimp only; repeat' split
  all_goals first | rfl | simp

@[simp] theorem State.postChanges_config (k : Addr) (old : Entry) (f : FrameBody) (s : State) : (s.postChanges k old f).hp.config = s.hp.config := by
  unfold State.postChanges; dsimp only; repeat' split
  all_goals first | rfl | simp
@[simp] theorem State.compareView_config (k : Addr) (f : FrameBody) (b : Bool) (s : State) : (s.compareView k f b).hp.config = s.hp.config := by
  unfold State.compareView; dsimp only; repeat' split
  all_goals first | rfl | simp
@[simp] theorem State.condemnPeer_config (j : Addr) (s : State) : (s.condemnPeer j).hp.config = s.hp.config := by
  simp [State.condemnPeer]
@[simp] theorem State.splitEntry_config (j : Addr) (s : State) : (s.splitEntry j).hp.config = s.hp.config := by
  simp [State.splitEntry]
@[simp] theorem State.clearEntry_config (j : Addr) (s : State) : (s.clearEntry j).hp.config = s.hp.config := by
  unfold State.clearEntry; repeat' split
  all_goals first | rfl | simp
@[simp] theorem State.endSplits_config (j : Addr) (s : State) : (s.endSplits j).hp.config = s.hp.config := by rw [State.endSplits_hp]
@[simp] theorem State.condemnOwn_config (s : State) : (s.condemnOwn).hp.config = s.hp.config := by
  simp [State.condemnOwn]
@[simp] theorem State.accountMiss_config (j : Addr) (s : State) : (s.accountMiss j).hp.config = s.hp.config := by
  unfold State.accountMiss; dsimp only; repeat' split
  all_goals first | rfl | simp
@[simp] theorem State.applyVerdict_config (c k : AddrSet) (j : Addr) (s : State) : (s.applyVerdict c k j).hp.config = s.hp.config := by
  unfold State.applyVerdict; repeat' split
  all_goals first | rfl | simp
@[simp] theorem State.composeOwn_config (s : State) : (s.composeOwn).hp.config = s.hp.config := by
  unfold State.composeOwn; dsimp only; split <;> simp
@[simp] theorem State.takeAccusations_config (k : Addr) (f : FrameBody) (s : State) : (s.takeAccusations k f).hp.config = s.hp.config := by
  unfold State.takeAccusations; dsimp only; rw [State.countAccusations_config]; split
  · exact foldl_keeps (fun t : State => t.hp.config = s.hp.config) _ (fun t a h => by split <;> simp [h]) _ s rfl
  · rfl
@[simp] theorem State.adoptFrame_config (m : FrameKind) (k : Addr) (f : FrameBody) (s : State) : (s.adoptFrame m k f).hp.config = s.hp.config := by
  unfold State.adoptFrame; dsimp only; repeat' split
  all_goals first | rfl | simp
@[simp] theorem State.restartedEntry_config (k : Addr) (f : FrameBody) (s : State) : (s.restartedEntry k f).hp.config = s.hp.config := by
  simp [State.restartedEntry]
@[simp] theorem State.heldEntry_config (k : Addr) (f : FrameBody) (s : State) : (s.heldEntry k f).hp.config = s.hp.config := by
  simp [State.heldEntry]
@[simp] theorem State.admitPeer_config (k : Addr) (f : FrameBody) (s : State) : (s.admitPeer k f).hp.config = s.hp.config := by
  simp [State.admitPeer]
@[simp] theorem State.announceFromAbsent_config (k : Addr) (f : FrameBody) (s : State) : (s.announceFromAbsent k f).hp.config = s.hp.config := by
  unfold State.announceFromAbsent; dsimp only; repeat' split
  all_goals first | rfl | simp
@[simp] theorem State.announceFromJoining_config (k : Addr) (f : FrameBody) (s : State) : (s.announceFromJoining k f).hp.config = s.hp.config := by
  unfold State.announceFromJoining; repeat' split
  all_goals first | rfl | simp
@[simp] theorem State.announceFromMember_config (k : Addr) (f : FrameBody) (s : State) : (s.announceFromMember k f).hp.config = s.hp.config := by
  unfold State.announceFromMember; dsimp only; repeat' split
  all_goals first | rfl | simp
@[simp] theorem State.applyAnnounce_config (k : Addr) (f : FrameBody) (s : State) : (s.applyAnnounce k f).hp.config = s.hp.config := by
  unfold State.applyAnnounce; repeat' split
  all_goals first | rfl | simp
@[simp] theorem State.countJoin_config (k : Addr) (f : FrameBody) (s : State) : (s.countJoin k f).hp.config = s.hp.config := by
  unfold State.countJoin; dsimp only; repeat' split
  all_goals first | rfl | simp
@[simp] theorem State.restartPeer_config (k : Addr) (f : FrameBody) (s : State) : (s.restartPeer k f).hp.config = s.hp.config := by
  simp [State.restartPeer]
@[simp] theorem State.beginAdmission_config (k : Addr) (f : FrameBody) (s : State) : (s.beginAdmission k f).hp.config = s.hp.config := by
  unfold State.beginAdmission; simp
@[simp] theorem State.applyJoin_config (k : Addr) (f : FrameBody) (s : State) : (s.applyJoin k f).hp.config = s.hp.config := by
  unfold State.applyJoin; repeat' split
  all_goals first | rfl | simp
@[simp] theorem State.applyLeave_config (k : Addr) (f : FrameBody) (s : State) : (s.applyLeave k f).hp.config = s.hp.config := by
  unfold State.applyLeave; dsimp only; repeat' split
  all_goals first | rfl | simp
@[simp] theorem State.applyFrame_config (m : FrameKind) (k : Addr) (f : FrameBody) (s : State) : (s.applyFrame m k f).hp.config = s.hp.config := by
  unfold State.applyFrame; dsimp only; repeat' split
  all_goals first | rfl | simp
@[simp] theorem State.applyForeign_config (k : Addr) (d : Word16) (s : State) : (s.applyForeign k d).hp.config = s.hp.config := by
  unfold State.applyForeign; dsimp only; repeat' split
  all_goals first | rfl | simp
@[simp] theorem State.applyOutOfStep_config (k : Addr) (s : State) : (s.applyOutOfStep k).hp.config = s.hp.config := by rw [State.applyOutOfStep_hp]
@[simp] theorem State.takeFrame_config (m : FrameKind) (k : Addr) (f : FrameBody) (s : State) : (s.takeFrame m k f).hp.config = s.hp.config := by
  unfold State.takeFrame; dsimp only; repeat' split
  all_goals first | rfl | simp
@[simp] theorem State.completeAdmission_config (s : State) : (s.completeAdmission).hp.config = s.hp.config := by
  unfold State.completeAdmission; dsimp only
  exact foldl_keeps (fun t : State => t.hp.config = s.hp.config) _ (fun t a h => by simp [h]) _ _ (by simp)
@[simp] theorem State.admissionStep_config (s : State) : (s.admissionStep).hp.config = s.hp.config := by
  unfold State.admissionStep; dsimp only; repeat' split
  all_goals simp
@[simp] theorem State.roundEndWork_config (b : Bool) (s : State) : (s.roundEndWork b).hp.config = s.hp.config := by
  unfold State.roundEndWork; dsimp only
  rw [State.admissionStep_config]
  refine foldl_keeps (fun t : State => t.hp.config = s.hp.config) _ (fun t a h => by simp [h]) _ _ ?_
  split
  · rfl
  · exact foldl_keeps (fun t : State => t.hp.config = s.hp.config) _ (fun t a h => by simp [h]) _ _ rfl
@[simp] theorem State.resync_config (s : State) : (s.resync).hp.config = s.hp.config := by
  unfold State.resync; dsimp only; repeat' split
  all_goals first | rfl | simp
@[simp] theorem State.withdrawBlocked_config (s : State) : (s.withdrawBlocked).hp.config = s.hp.config := by
  unfold State.withdrawBlocked; dsimp only; split <;> simp
@[simp] theorem State.beginRound_config (d : Driving) (s : State) : (s.beginRound d).hp.config = s.hp.config := by
  simp [State.beginRound]
@[simp] theorem State.enterSynced_config (d : Driving) (w : WayOfEntry) (s : State) : (s.enterSynced d w).hp.config = s.hp.config := by
  unfold State.enterSynced; dsimp only; repeat' split
  all_goals first | rfl | simp

end Sys2Proof.Machine
end

