-- ==== Sys2Proof/Laws/Ops.lean ====
section
/-! SUPPORT. What each shared operation can do, said once: the event queue, the Peer Table, suspicion, and the fold of a suspicion over
the addresses. Later proofs cite these and unfold nothing. -/

namespace Sys2Proof.Machine

/-! ### The event queue -/

/-- Everything that an enabled post can do to the queue (R158, R159, R160). -/
theorem HostPort.enqueue_cases (r : EventRecord) (h : HostPort) :
    (32 ≤ h.queue.length ∧ h.enqueue r = { h with lost := satAdd 255 h.lost }) ∨
    (h.queue.length < 32 ∧ h.lost = 0 ∧ h.enqueue r = { h with queue := h.queue ++ [r], int := true }) ∨
    (h.queue.length < 31 ∧ h.lost ≠ 0 ∧ h.enqueue r =
      { h with queue := h.queue ++ [{ round := r.round, event := .lossRecord h.lost }, r], lost := 0, int := true }) ∨
    (h.queue.length = 31 ∧ h.lost ≠ 0 ∧ h.enqueue r =
      { h with queue := h.queue ++ [{ round := r.round, event := .lossRecord h.lost }], lost := 1, int := true }) := by
  unfold HostPort.enqueue Config.queueCapacity Config.lostMax
  by_cases h1 : 32 ≤ h.queue.length
  · exact .inl ⟨h1, if_pos h1⟩
  · refine .inr ?_
    rw [if_neg h1]
    by_cases h2 : h.lost = 0
    · exact .inl ⟨by omega, h2, if_pos h2⟩
    · refine .inr ?_
      rw [if_neg h2]
      by_cases h3 : h.queue.length + 2 ≤ 32
      · exact .inl ⟨by omega, h2, if_pos h3⟩
      · exact .inr ⟨by omega, h2, if_neg h3⟩

/-- A post is an enabled one, taken by the queue, or it changes nothing (R157). -/
theorem State.post_cases (e : Event) (s : State) :
    (s.hp.enabled (e.klass s.hp.address) = true ∧
      s.post e = { s with hp := s.hp.enqueue { round := s.lu.roundNumber, event := e } }) ∨
    (s.hp.enabled (e.klass s.hp.address) = false ∧ s.post e = s) := by
  unfold State.post
  cases h : s.hp.enabled (e.klass s.hp.address)
  · exact .inr ⟨rfl, by simp⟩
  · exact .inl ⟨rfl, by simp⟩

theorem satAdd_le (top n : Nat) (h : n ≤ top) : satAdd top n ≤ top := by
  unfold satAdd; split <;> omega

/-! ### The Peer Table -/

theorem State.entry_of_vu {s t : State} (h : t.vu = s.vu) (a : Addr) : t.entry a = s.entry a := by
  simp [State.entry, h]

theorem State.own_of {s t : State} (h : t.vu = s.vu) (k : t.hp.address = s.hp.address) : t.own = s.own := by
  simp [State.own, State.entry, State.ownAddr, h, k]

@[simp] theorem State.entry_setEntry (a b : Addr) (e : Entry) (s : State) :
    (s.setEntry a e).entry b = if b = a then e else s.entry b := by
  simp only [State.entry, State.setEntry]
  by_cases h : b = a
  · subst h; simp
  · rw [if_neg h]
    exact Vector.getElem_set_ne _ _ (fun hab => h (Fin.ext hab.symm))

@[simp] theorem State.entry_modifyEntry (a b : Addr) (f : Entry → Entry) (s : State) :
    (s.modifyEntry a f).entry b = if b = a then f (s.entry a) else s.entry b := by
  simp [State.modifyEntry]

@[simp] theorem State.entry_dropAccusation (a b : Addr) (s : State) : (s.dropAccusation a).entry b = s.entry b := rfl

@[simp] theorem State.entry_moveEntry (a b : Addr) (f : Entry → Entry) (s : State) :
    (s.moveEntry a f).entry b = if b = a then f (s.entry a) else s.entry b := by
  unfold State.moveEntry; split <;> simp

@[simp] theorem State.entry_post (e : Event) (b : Addr) (s : State) : (s.post e).entry b = s.entry b :=
  State.entry_of_vu (by simp) b

@[simp] theorem State.entry_armTimer (b : Addr) (s : State) : s.armTimer.entry b = s.entry b := rfl

@[simp] theorem State.entry_disarmTimer (b : Addr) (s : State) : s.disarmTimer.entry b = s.entry b := rfl

@[simp] theorem State.entry_answerWith (st : Status) (d : List Byte) (adv : Option Advance) (b : Addr) (s : State) :
    (s.answerWith st d adv).entry b = s.entry b := rfl

@[simp] theorem State.entry_answer (st : Status) (d : List Byte) (b : Addr) (s : State) :
    (s.answer st d).entry b = s.entry b := rfl

@[simp] theorem State.entry_countAccusations (k : Addr) (x : AddrSet) (b : Addr) (s : State) :
    (s.countAccusations k x).entry b = s.entry b := by
  unfold State.countAccusations; split <;> rfl

@[simp] theorem State.entry_startAttempt (b : Addr) (s : State) : s.startAttempt.entry b = s.entry b :=
  State.entry_of_vu (by simp) b

@[simp] theorem State.entry_releaseIfRequested (b : Addr) (s : State) : s.releaseIfRequested.entry b = s.entry b :=
  State.entry_of_vu (by simp) b

@[simp] theorem State.entry_suspect (j b : Addr) (c : SuspectCause) (s : State) :
    (s.suspect j c).entry b =
      if b = j ∧ (s.entry j).state = .member then (s.entry j).moveTo .suspect else s.entry b := by
  unfold State.suspect
  by_cases h : (s.entry j).state = .member
  · simp [h]
  · simp [h]

/-- A suspicion moves at most the entry it names, and only from MEMBER to SUSPECT (R27). -/
theorem State.entry_testEvidence (j b : Addr) (s : State) :
    (s.testEvidence j).entry b =
      if b = j ∧ (s.entry j).state = .member ∧ s.evidence j = true then (s.entry j).moveTo .suspect else s.entry b := by
  unfold State.testEvidence
  by_cases h : s.evidence j = true <;> simp [h]

/-- The Peer Table that power-on and RESTART leave (R21). -/
theorem ViewUnit.reset_table (own a : Addr) (i : Byte) :
    (ViewUnit.reset own i).table[a] = if a = own then { Entry.reset with incarnation := some i } else Entry.reset := by
  unfold ViewUnit.reset
  by_cases h : a = own
  · subst h; simp
  · have h' : ¬ own.val = a.val := fun hab => h (Fin.ext hab.symm)
    simp [h, h']

/-! ### Moving an entry -/

@[simp] theorem Entry.moveTo_state (st : EntryState) (e : Entry) : (e.moveTo st).state = st := by
  unfold Entry.moveTo; dsimp only; split <;> rfl

@[simp] theorem Entry.moveTo_incarnation (st : EntryState) (e : Entry) : (e.moveTo st).incarnation = e.incarnation := by
  unfold Entry.moveTo; dsimp only; split <;> rfl

@[simp] theorem Entry.moveTo_admission (st : EntryState) (e : Entry) :
    (e.moveTo st).admission = if st = .joining then e.admission else none := by
  unfold Entry.moveTo; dsimp only; split <;> rfl

/-- Leaving one state for another that is not ABSENT changes the state and the admission rounds remaining alone. -/
theorem Entry.moveTo_of_ne {st : EntryState} (h : st ≠ .absent) (e : Entry) :
    e.moveTo st = { e with state := st, admission := if st = .joining then e.admission else none } := by
  unfold Entry.moveTo; simp [h]

/-- Entering ABSENT from another state (R4). -/
theorem Entry.moveTo_absent {e : Entry} (h : e.state ≠ .absent) :
    e.moveTo .absent =
      { e with state := .absent, admission := none, missCount := 0, splits := 0, strangerReported := false } := by
  unfold Entry.moveTo; simp [h]

end Sys2Proof.Machine
end

