-- ==== Sys2Proof/Laws/Sets.lean ====
section
/-! SUPPORT. Address sets, the accuser tally and the table as data, and the shared operations of the View Unit written out as one record each:
a post, a moved entry, a suspicion, a fold of suspicions, a count of accusers, a closed slot. Later proofs rewrite with these. -/

namespace Sys2Proof

/-! ### Address sets -/

theorem inSet_insertAddr (a b : Addr) (x : AddrSet) : inSet b (insertAddr a x) = (inSet b x || (b == a)) := by
  simp only [inSet, insertAddr, onlyAddr, BitVec.getLsbD_or, BitVec.getLsbD_twoPow]
  congr 1
  by_cases h : b = a
  · subst h; simp [b.isLt]
  · have : ¬ a.val = b.val := fun h' => h (Fin.ext h'.symm)
    simp [h, this]

theorem inSet_eraseAddr (a b : Addr) (x : AddrSet) : inSet b (eraseAddr a x) = (inSet b x && !(b == a)) := by
  simp only [inSet, eraseAddr, onlyAddr, BitVec.getLsbD_and, BitVec.getLsbD_not, BitVec.getLsbD_twoPow, b.isLt, decide_true,
    Bool.true_and]
  congr 1; congr 1
  by_cases h : b = a
  · subst h; simp [b.isLt]
  · have : ¬ a.val = b.val := fun h' => h (Fin.ext h'.symm)
    simp [h, this]

theorem inSet_zero (a : Addr) : inSet a 0 = false := by simp [inSet]

/-- Two sets with the same addresses are the same. -/
theorem addrSet_ext {x y : AddrSet} (h : ∀ a : Addr, inSet a x = inSet a y) : x = y := by
  apply BitVec.eq_of_getLsbD_eq
  intro i hi
  exact h ⟨i, hi⟩

/-- Taking out an address that is not there changes nothing. -/
theorem eraseAddr_of_not_inSet (a : Addr) (x : AddrSet) (h : inSet a x = false) : eraseAddr a x = x := by
  apply addrSet_ext
  intro b
  rw [inSet_eraseAddr]
  by_cases hb : b = a
  · subst hb; simp [h]
  · simp [hb]

theorem eraseAddr_zero (a : Addr) : eraseAddr a 0 = 0 := eraseAddr_of_not_inSet a 0 (inSet_zero a)

theorem mem_allAddrs (a : Addr) : a ∈ allAddrs := by revert a; decide

theorem allAddrs_nodup : allAddrs.Nodup := by decide

theorem inSet_foldl_insert (p : Addr → Bool) (l : List Addr) (x : AddrSet) (a : Addr) :
    inSet a (l.foldl (fun s a => if p a then insertAddr a s else s) x) = (inSet a x || (decide (a ∈ l) && p a)) := by
  induction l generalizing x with
  | nil => simp
  | cons b l ih =>
    simp only [List.foldl_cons, ih]
    by_cases hb : p b = true
    · simp only [hb, if_true, inSet_insertAddr, List.mem_cons]
      by_cases hab : a = b
      · subst hab; simp [hb]
      · have h2 : (a == b) = false := by simpa using hab
        simp [hab, h2]
    · simp only [if_neg hb, List.mem_cons]
      by_cases hab : a = b
      · subst hab; simp [hb]
      · simp [hab]

/-- The addresses with a property, as a set. -/
theorem inSet_setWhere (p : Addr → Bool) (a : Addr) : inSet a (setWhere p) = p a := by
  unfold setWhere
  rw [inSet_foldl_insert]
  simp [mem_allAddrs, inSet]

/-- A set is named by what it holds. -/
theorem setWhere_eq {p : Addr → Bool} {x : AddrSet} (h : ∀ a, inSet a x = p a) : setWhere p = x :=
  addrSet_ext (by simp [h, inSet_setWhere])

/-! ### Two-byte fields -/

/-- A two-byte field is read back from its two bytes (R168). -/
theorem wordOf_highByte_lowByte (w : Word16) : wordOf (highByte w) (lowByte w) = w := by
  apply BitVec.eq_of_toNat_eq
  have := w.isLt
  simp only [wordOf, highByte, lowByte, BitVec.toNat_append, BitVec.extractLsb'_toNat, Nat.shiftRight_eq_div_pow]
  rw [← Nat.shiftLeft_add_eq_or_of_lt (by omega), Nat.shiftLeft_eq]
  omega

end Sys2Proof

namespace Sys2Proof.Machine

/-! ### The table and the tally -/

/-- States with the same blocks are the same. -/
theorem State.ext_blocks {s t : State} (h1 : s.lu = t.lu) (h2 : s.vu = t.vu) (h3 : s.pt = t.pt) (h4 : s.ru = t.ru) (h5 : s.cm = t.cm)
    (h6 : s.hp = t.hp) (h7 : s.pending = t.pending) (h8 : s.ticks = t.ticks) : s = t := by
  cases s; cases t; simp_all

/-- A table is named by its entries. -/
theorem State.table_ext {s t : State} (h : ∀ a : Addr, s.entry a = t.entry a) : s.vu.table = t.vu.table := by
  apply Vector.ext
  intro i hi
  exact h ⟨i, hi⟩

theorem State.setEntry_entry (s : State) (a : Addr) : s.setEntry a (s.entry a) = s := by
  have : s.vu.table.set a s.vu.table[a] = s.vu.table := by
    apply Vector.ext
    intro i hi
    rw [Vector.getElem_set]
    split
    · rename_i h; subst h; rfl
    · rfl
  simp only [State.setEntry, State.entry, this]

theorem State.setEntry_setEntry (s : State) (a : Addr) (x y : Entry) : (s.setEntry a x).setEntry a y = s.setEntry a y := by
  have : (s.vu.table.set a x).set a y = s.vu.table.set a y := by
    apply Vector.ext
    intro i hi
    simp only [Vector.getElem_set]
    split <;> simp_all
  simp only [State.setEntry, this]

theorem addAccuser_foldl (v : Addr) (accused : AddrSet) (l : List Addr) (hn : l.Nodup) (t : Vector AddrSet 16) (j a : Addr) :
    inSet a (l.foldl (fun t j => if inSet j accused then t.set j (insertAddr v t[j]) else t) t)[j] =
      (inSet a t[j] || (a == v && inSet j accused && decide (j ∈ l))) := by
  induction l generalizing t with
  | nil => simp
  | cons b l ih =>
    simp only [List.foldl_cons, ih (List.nodup_cons.1 hn).2, List.mem_cons]
    have hb := (List.nodup_cons.1 hn).1
    by_cases hj : j = b
    · subst hj
      by_cases hc : inSet j accused = true
      · simp [hc, inSet_insertAddr, hb]
      · simp [hc]
    · have hv : ¬ b.val = j.val := fun h' => hj (Fin.ext h'.symm)
      by_cases hc : inSet b accused = true
      · simp [hc, hj, hv]
      · simp [hc, hj]

/-- The accusers of every address once a voter's accusation set is added (R30). -/
theorem inSet_addAccuser (v : Addr) (accused : AddrSet) (t : Vector AddrSet 16) (j a : Addr) :
    inSet a (addAccuser v accused t)[j] = (inSet a t[j] || (a == v && inSet j accused)) := by
  unfold addAccuser
  rw [addAccuser_foldl _ _ _ allAddrs_nodup]
  simp [mem_allAddrs]

/-- Everything that counting a frame's accusations can do: the tally gains the sender where it is a voter (R30). -/
theorem State.countAccusations_eq (k : Addr) (x : AddrSet) (s : State) : ∃ tally : Vector AddrSet 16,
    (∀ j a : Addr, inSet a tally[j] = (inSet a s.vu.tally[j] || (a == k && inSet a s.vu.voters && inSet j x))) ∧
    s.countAccusations k x = { s with vu := { s.vu with tally := tally } } := by
  unfold State.countAccusations
  by_cases h : inSet k s.vu.voters = true
  · refine ⟨addAccuser k x s.vu.tally, ?_, by rw [if_pos h]⟩
    intro j a
    rw [inSet_addAccuser]
    by_cases ha : a = k
    · subst ha; simp [h]
    · have : (a == k) = false := by simpa using ha
      simp [this]
  · refine ⟨s.vu.tally, ?_, by rw [if_neg h]⟩
    intro j a
    by_cases ha : a = k
    · subst ha; simp [h]
    · have : (a == k) = false := by simpa using ha
      simp [this]

/-! ### Posts -/

/-- The Host Port after the post of an event in a round (R156 to R160). -/
def HostPort.took (e : Event) (round : Word16) (h : HostPort) : HostPort :=
  if h.enabled (e.klass h.address) then h.enqueue { round := round, event := e } else h

/-- A post reaches the Host Port alone. -/
theorem State.post_eq (e : Event) (s : State) : s.post e = { s with hp := s.hp.took e s.lu.roundNumber } := rfl

/-- The Host Port after several posts in one round. -/
def HostPort.tookAll (es : List Event) (round : Word16) (h : HostPort) : HostPort := es.foldl (fun x e => x.took e round) h

theorem State.postAll_eq (es : List Event) (s : State) : s.postAll es = { s with hp := s.hp.tookAll es s.lu.roundNumber } := by
  induction es generalizing s with
  | nil => rfl
  | cons e es ih =>
    show (s.post e).postAll es = _
    rw [ih]
    rfl

theorem HostPort.took_address (e : Event) (r : Word16) (h : HostPort) : (h.took e r).address = h.address := by
  unfold HostPort.took; split <;> simp

theorem HostPort.took_config (e : Event) (r : Word16) (h : HostPort) : (h.took e r).config = h.config := by
  unfold HostPort.took; split <;> simp

theorem HostPort.took_digest (e : Event) (r : Word16) (h : HostPort) : (h.took e r).digest = h.digest := by
  unfold HostPort.took; split <;> simp

/-! ### Moved and suspected entries -/

/-- Everything that moving an entry can do (R4, R44). -/
theorem State.moveEntry_eq (a : Addr) (f : Entry → Entry) (s : State) :
    s.moveEntry a f = { s with vu := { s.vu with
      table := s.vu.table.set a (f (s.entry a))
      hostAccused := if (f (s.entry a)).state.isMember then s.vu.hostAccused else eraseAddr a s.vu.hostAccused } } := by
  unfold State.moveEntry; split <;> rfl

/-- An entry that enters ABSENT from another state (R4). -/
theorem Entry.moveTo_absent_eq_gone {e : Entry} (h : e.state ≠ .absent) : e.moveTo .absent = e.gone := Entry.moveTo_absent h

/-- Everything that a suspicion can do (R27). -/
theorem State.suspect_eq (j : Addr) (c : SuspectCause) (s : State) : s.suspect j c =
    if (s.entry j).state = .member then
      { s with
        vu := { s.vu with table := s.vu.table.set j { s.entry j with state := .suspect, admission := none } }
        hp := s.hp.took (.suspected j c) s.lu.roundNumber }
    else s := by
  unfold State.suspect
  split
  · rw [State.post_eq]
    simp only [State.modifyEntry]
    rw [Entry.moveTo_of_ne (by decide)]
    rfl
  · rfl

/-- Evidence judged by a recorded host state (R23, R25). -/
theorem HostState.isFailing_iff (h : HostState) : h.isFailing = true ↔ h = .lapsed ∨ h = .fault := by
  cases h <;> simp [HostState.isFailing]

/-! ### Slots -/

theorem SlotOpen.slotReady {s : State} {k : Addr} (h : SlotOpen s k) : s.slotReady k = true := by
  obtain ⟨n, h1, h2, h3⟩ := h.position
  have ho : s.online = true := by
    rcases h.online with h | h <;> simp [State.online, h]
  have : (decide (s.ownAddr.val < n) || decide (k.val < s.ownAddr.val)) = true := by
    rw [Bool.or_eq_true, decide_eq_true_eq, decide_eq_true_eq]; exact h3
  simp only [State.slotReady, ho, h1, this, h2, decide_true, Bool.and_true, Bool.true_and, bne_iff_ne]
  exact h.peer

/-- Everything that closing an open slot can do (R81, R82, R83). -/
theorem State.closeSlot_eq {s : State} {k : Addr} (h : SlotOpen s k) (r : Reception) : s.closeSlot k r =
    (match r with
    | .silent => ({ s with lu := s.lu.closed k .silent } : State)
    | .garbled => { s with lu := { s.lu.closed k .garbled with garbledTotal := satAdd 65535 s.lu.garbledTotal } }
    | .frame kind body =>
      { s with lu := { s.lu with pos := .slots (k.val + 1), driving := .nothing } }.takeFrame kind k body) := by
  unfold State.closeSlot
  rw [if_pos h.slotReady]
  cases r <;> rfl

/-- A frame in step reaches the View Unit with the Line Unit's counts made (R82, R89). -/
theorem State.closeSlot_frame {s : State} {k : Addr} {f : FrameBody} (h : InStep s k f) (kind : FrameKind) :
    s.closeSlot k (.frame kind f) = ({ s with lu := s.lu.heard k f } : State).applyFrame kind k f := by
  rw [State.closeSlot_eq h.slot]
  simp only
  unfold State.takeFrame
  have hd : ¬ (s.hp.digest ≠ some f.digest) := by rw [h.digest]; simp
  rw [if_neg hd]
  by_cases ha : s.lu.adoptOpen = true
  · simp only [LineUnit.adoptRound, ha, if_true, ne_eq, not_true_eq_false, if_false]; rfl
  · have hr : f.round = s.lu.roundNumber := h.round.resolve_left ha
    have ha' : s.lu.adoptOpen = false := by simpa using ha
    simp only [LineUnit.adoptRound, ha', Bool.false_eq_true, if_false, hr, ne_eq, not_true_eq_false]
    simp only [LineUnit.heard, LineUnit.closed, hr, ← ha']
    rfl

end Sys2Proof.Machine
end

