-- ==== Sys2Proof/WellFormed.lean ====
section
/-! DEFINITION. Which commands are well formed: the operands that a row's rule admits. A command that is not well formed still has a
meaning; these checks say what its row promises. -/

namespace Sys2Proof

/-- The levels on SDI complete a frame that fails a check of R139. -/
def badFrame (sdi : List Bool) : Bool :=
  match checkFrame (bytesOfBits sdi) with
  | .badCheck | .badCommand => true
  | .incomplete | .good _ => false

/-- The bits of a slot, where there are any, begin with the dominant start bit (R70, R81). -/
def readingStarted (r : SlotReading) : Bool :=
  match r with
  | .silent | .badStart => true
  | .levels (false :: _) => true
  | .levels _ => false

/-- The operands of a command are those its row admits. -/
def Instr.wellFormed (i : Instr) : Bool :=
  match i with
  | .badCommandFrame sdi => badFrame sdi
  | .slotClose _ r => readingStarted r
  | .powerOn _ _ _ | .ncsAssert | .ncsRelease | .responseDelivered | .configure _ | .status | .restart | .join | .leave
  | .accuse _ | .pardon _ | .prompt _ | .publish _ | .snapshot | .readEntry | .discardSnapshot | .readEvent | .roundMark
  | .roundTimerExpiry | .listenWindowExpiry | .ownSlotStart | .ownSlotEnd _ | .announceFrame _ _ | .joinFrame _ _
  | .leaveFrame _ _ | .verdictFieldStart | .roundEnd _ _ | .collision | .lineStuck | .lineReleased | .promptWarning
  | .promptLapsed | .pulseEnd | .pulseConfirmed | .externalHostReset _ | .mclrAssertion _ | .recoveryWindowEnd
  | .inputChange _ _ | .turnaroundEnd | .releaseMeasurementRestart | .mclrRelease | .rstsenseRelease => true

end Sys2Proof
end

