-- ==== Sys2Proof/Tests/Slice0.lean ====
section
/-! SUPPORT. The model's own tests: well-formedness, byte and bit layouts against the spec's examples and hand computation, single
steps of each family on a small station, and for every statement with hypotheses a witness that meets them. -/

namespace Sys2Proof.Tests

/- One theorem after another: checked side by side, these kernel evaluations start more threads than the check's memory limit admits. -/
set_option Elab.async false

open Sys2Proof Sys2Proof.Machine

/-! ### A small station -/

/-- A configuration record inside every range (R144): round period 100 ms, miss limit 2, admit rounds 3, pulse 250 ms. -/
def record : ConfigRecord where
  roundPeriod := 10
  missLimit := 2
  admitRounds := 3
  quorumFloor := 1
  promptPeriod := 1000
  warningLead := 200
  recoveryRounds := 4
  resetLimit := 2
  pulseDuration := 25
  failMask := 2
  polarity := 2
  enables := 7

/-- A peer's entry with incarnation 2. -/
def peer (st : EntryState) : Entry :=
  { Entry.reset with state := st, incarnation := some 2, lastHeard := some 40, hostState := .running,
                     admission := if st = .joining then some 2 else none }

/-- Station 6, configured, in COMMAND: peer 1 is MEMBER, 3 SUSPECT, 4 JOINING, 9 RECOVERING; round 41. -/
def station (own : EntryState) (line : LineState) (pos : RoundPos) : State :=
  let p := State.powerOn 6 2 false
  let online := line == .synced || line == .active
  let member := own == .member || own == .suspect
  { p with
    hp := { p.hp with config := some record, digest := some (profileDigest record), phase := .command }
    lu := { p.lu with
      state := line, att := line == .active, pos := pos, roundNumber := 41, numberSet := true
      roundTimer := if online then some 60 else none
      listenWindow := if line == .listening then some 150 else none }
    vu := { p.vu with
      table := ((((p.vu.table.set 6 { peer own with lastHeard := none }).set 1 (peer .member)).set 3 (peer .suspect)).set 4
        (peer .joining)).set 9 (peer .recovering)
      voters := if member then 0x004A else 0x000A
      voterCount := if member then 3 else 2
      quorum := 2 }
    pt := if member then { state := .running, remaining := 700, expected := 9, warn := false } else p.pt
    ru := if own == .recovering then
        { p.ru with state := .waiting, attempt := 1, recovery := 4 } else p.ru }

/-- A frame of the station's profile and round, incarnation 2, host RUNNING. -/
def frame : FrameBody where
  incarnation := 2
  round := 41
  digest := profileDigest record
  hostCode := 1
  attempt := 0
  flags := 0
  service := 0
  view := 0x004A
  accuses := 0

/-- What a command leaves; every command answers a next state. -/
def after (c : Instr) (s : State) : State :=
  match exec c s with
  | .next t => t
  | .fault _ | .refused _ => s

/-! ### Well-formed commands -/

/-- A frame that passes its checks is no bad frame, and an unfinished one is none either. -/
theorem test_wellFormed_badCommandFrame :
    (Instr.badCommandFrame (dataBits [0x10, 0x00, 0x00])).wellFormed = true ∧
    (Instr.badCommandFrame (dataBits HostCommand.status.frame)).wellFormed = false ∧
    (Instr.badCommandFrame (dataBits [0x10])).wellFormed = false := by decide +kernel

/-- The bits of a slot begin with the dominant start bit. -/
theorem test_wellFormed_slotClose :
    (Instr.slotClose 3 (.levels [false, true])).wellFormed = true ∧
    (Instr.slotClose 3 (.levels [true])).wellFormed = false ∧ (Instr.slotClose 3 (.levels [])).wellFormed = false := by
  decide +kernel

/-! ### Layouts (chapter 10) -/

/-- The example of section 10.6: the first fourteen bytes as the table there gives them, the digest left out. -/
theorem test_frame_of_section_10_6 :
    frameHead .announce 9
      { incarnation := 3, round := 1402, digest := 0, hostCode := HostState.warned.code, attempt := 0, flags := 0
        service := 0x1234, view := 0x2244, accuses := 0x0040 } =
    [0x59, 0x03, 0x05, 0x7A, 0x00, 0x00, 0x20, 0x00, 0x12, 0x34, 0x22, 0x44, 0x00, 0x40] := by decide +kernel

/-- The line reads dominant, recessive, dominant, recessive after the start bit of the same frame (section 10.6), and the first run
of four dominant levels is followed by a stuff bit (R70): 59h 03h is 0101 1001 0000 0011. -/
theorem test_line_of_section_10_6 :
    (lineBits [0x59, 0x03]).take 18 =
      [false, false, true, false, true, true, false, false, true, false, false, false, false, true, false, false, true, true] := by
  decide +kernel

/-- The start bit is part of the first run (R70): after it three 0 bits make four dominant levels. -/
theorem test_stuffing_counts_the_start_bit : lineBits [0x00] =
    [false, false, false, false, true, false, false, false, false, true, false, true] := by decide +kernel

/-- Five equal bits are a stuffing error, and a dominant end bit a framing error (R81). -/
theorem test_line_errors :
    bytesOfLine (List.replicate 160 false) = none ∧
    bytesOfLine ((lineBits (frameBytes .announce 6 frame)).dropLast ++ [false]) = none := by decide +kernel

/-- Hand computation from R170 and R169: 01h leaves 07h, 80h leaves 89h; FFh keeps every bit equal and only shifts FFFFh. -/
theorem test_check_codes : crc8 [0x01] = 0x07 ∧ crc8 [0x80] = 0x89 ∧ crc16 [] = 0xFFFF ∧ crc16 [0xFF] = 0xFF00 := by
  decide +kernel

/-- A frame of another sender, of an unknown kind or with a changed bit is none; code 7 is recorded as FAULT (R169). -/
theorem test_frame_refused :
    frameOfBytes 5 (frameBytes .join 6 frame) = none ∧ FrameKind.ofCode 0x6 = none ∧
    frameOfBytes 6 ((frameBytes .join 6 frame).set 8 0x01) = none ∧ HostState.ofCode 7 = .fault := by decide +kernel

/-- The checks of R139 on PROMPT: its frame, a wrong check byte, a wrong length, an over-long length byte, an unfinished frame. -/
theorem test_command_frames :
    checkFrame (HostCommand.prompt 9).frame = .good (.prompt 9) ∧
    checkFrame [0x30, 0x01, 0x09, crc8 [0x30, 0x01, 0x09] + 1] = .badCheck ∧
    checkFrame [0x30, 0x00, crc8 [0x30, 0x00]] = .badCommand ∧ checkFrame [0x30, 25] = .badCommand ∧
    checkFrame [0x30, 24] = .incomplete := by decide +kernel

/-! ### Single steps -/

/-- SDI is read most significant bit first (R136): 10h, 00h and a check byte of 01h, and three bits of an incomplete byte. -/
theorem test_badCommandFrame :
    let sdi := [false, false, false, true, false, false, false, false] ++ List.replicate 8 false ++ (List.replicate 7 false ++ [true])
    (after (.badCommandFrame (sdi ++ [true, true, true])) (station .member .active .rest)).hp.response =
      some { status := .badCheck, data := [] } ∧
    (after (.badCommandFrame (sdi.take 23)) (station .member .active .rest)).hp.response = none := by decide +kernel

/-- SDO carries filler, FFh, in TURNAROUND, and in RESPONSE the status code first, REFUSED_STATE 10h = 0001 0000 (R136, R137, R170). -/
theorem test_sdo :
    let turned := after .join (station .member .active .rest)
    (∀ k ∈ [0, 7, 15], turned.sdoLevel k = some true) ∧
    (List.range 8).map (after .turnaroundEnd turned).sdoLevel =
      [some false, some false, some false, some true, some false, some false, some false, some false] := by decide +kernel

/-- CONFIGURE is refused a round period below its least value and stores the digest of a good record (R144, R146). -/
theorem test_configure :
    let s := { State.reset with hp := { State.reset.hp with phase := .command } }
    (after (.configure { record with roundPeriod := 1 }) s).hp.response = some { status := .refusedValue, data := [] } ∧
    (after (.configure record) s).hp.digest = some (crc16 [10, 2, 3, 1]) ∧
    (after (.configure record) s).lu.listenWindow = some 200 := by decide +kernel

/-- JOIN increments the incarnation, wrapping from 255 to 0 (R50), and ends a waiting attempt (R116). -/
theorem test_join :
    let s := station .recovering .synced .rest
    (after .join s).own.incarnation = some 3 ∧ (after .join s).ru.state = .idle ∧
    (after .join (s.setEntry 6 { s.own with incarnation := some 255 })).own.incarnation = some 0 := by decide +kernel

/-- ACCUSE of a MEMBER makes it SUSPECT; the response is the bitmap (R45); the own address is no value for it. -/
theorem test_accuse :
    let s := station .member .active .rest
    ((after (.accuse 1) s).entry 1).state = .suspect ∧
    (after (.accuse 1) s).hp.response = some { status := .ok, data := [0x00, 0x02] } ∧
    (after (.accuse 6) s).hp.response = some { status := .refusedValue, data := [] } := by decide +kernel

/-- PROMPT wraps its expected number and restarts the period (R101). -/
theorem test_prompt :
    let s := station .member .active .rest
    let w := { s with pt := { s.pt with state := .warned, expected := 255, warn := true } }
    (after (.prompt 255) w).pt = { state := .running, remaining := 1000, expected := 0, warn := false } := by decide +kernel

/-- READ_EVENT keeps the head until the response is delivered whole (R161, R141). -/
theorem test_readEvent :
    let s := (station .member .active .rest).post .lineStuck
    let owed := after .turnaroundEnd (after .readEvent s)
    (after .readEvent s).hp.queue.length = 1 ∧ (after .ncsRelease owed).hp.queue.length = 1 ∧
    (after .responseDelivered owed).hp.queue = [] ∧ (after .responseDelivered owed).hp.int = false := by decide +kernel

/-- A mark in the rest begins round 42 and makes a station with a present own entry ACTIVE; inside the slots it has no effect (R73, R79). -/
theorem test_roundMark :
    (after .roundMark (station .member .active .rest)).lu.roundNumber = 42 ∧
    (after .roundMark (station .absent .synced .rest)).lu.state = .synced ∧
    (after .roundMark (station .member .active (.slots 3))).lu.pos = .slots 3 := by decide +kernel

/-- A searching station sets its round number to 0 with its first mark (R88) and posts LINE_SYNCED (R78). -/
theorem test_listenWindowExpiry :
    let s := station .absent .listening .outside
    let t := after .listenWindowExpiry { s with lu := { s.lu with numberSet := false } }
    t.lu.roundNumber = 0 ∧ t.lu.driving = .mark ∧ t.hp.queue = [{ round := 0, event := .lineSynced .ownMark }] := by
  decide +kernel

/-- A LAPSED timer makes a member accuse itself in its own slot (R25, R26, R29). -/
theorem test_ownSlotStart :
    let s := station .member .active (.slots 3)
    let t := after .ownSlotStart { s with pt := { s.pt with state := .lapsed, remaining := 0, warn := true } }
    t.own.state = .suspect ∧ t.vu.ownAccusations = 0x0040 ∧ inSet 6 t.vu.tally[(6 : Addr)] = true ∧
    (t.lu.ownFrame.map fun f => (f.kind, f.body.hostCode)) = some (.announce, 3) := by decide +kernel

/-- A frame in its own slot's bits is the frame it is; a wrong round number is OUT_OF_STEP (R81). -/
theorem test_slotClose :
    let s := station .member .active (.slots 0)
    (after (.slotClose 1 (.levels (lineBits (frameBytes .leave 1 frame)))) s).lu.inStep = 1 ∧
    ((after (.slotClose 1 (.levels (lineBits (frameBytes .leave 1 frame)))) s).entry 1).state = .absent ∧
    (after (.announceFrame 1 { frame with round := 40 }) s).lu.outOfStep = 1 := by decide +kernel

/-- An ANNOUNCE frame of a voter that accuses a MEMBER makes it SUSPECT with cause ACCUSED (R28). -/
theorem test_announceFrame :
    let s := station .member .active (.slots 0)
    let t := after (.announceFrame 3 { frame with accuses := 0x0002 }) s
    (t.entry 1).state = .suspect ∧ t.accusers 1 = 1 ∧ t.hp.queue = [{ round := 41, event := .suspected 1 .accused }] := by
  decide +kernel

/-- A JOIN frame of a JOINING entry counts down (R56); a member's JOIN frame is a restart (R58); a RECOVERING peer that joins posts
nothing with the reports it had (R56), and SERVICE with another service word (R18, R134). -/
theorem test_joinFrame :
    let s := station .member .active (.slots 0)
    ((after (.joinFrame 4 frame) s).entry 4).admission = some 1 ∧
    ((after (.joinFrame 1 { frame with incarnation := 3 }) s).entry 1).state = .joining ∧
    (after (.joinFrame 1 { frame with incarnation := 3 }) s).hp.queue =
      [{ round := 41, event := .restarted 1 2 3 }] ∧
    (after (.joinFrame 9 { frame with incarnation := 3 }) (station .member .active (.slots 7))).hp.queue = [] ∧
    (after (.joinFrame 9 { frame with incarnation := 3, service := 7 }) (station .member .active (.slots 7))).hp.queue =
      [{ round := 41, event := .service 9 7 }] := by decide +kernel

/-- With two accusers and Q = 2 the station drives CONDEMN for a SUSPECT peer, with one CLEAR (R34). -/
theorem test_verdictFieldStart :
    let s := station .member .active (.slots 16)
    let accused (by' : AddrSet) : State := { s with vu := { s.vu with tally := s.vu.tally.set 3 by' } }
    (after .verdictFieldStart (accused 0x0042)).lu.condemnDrive = 0x0008 ∧
    (after .verdictFieldStart (accused 0x0002)).lu.clearDrive = 0x0008 := by decide +kernel

/-- A condemned own station resets its host: RECOVERING, PULSING, attempt 1, pulse 250 ms, CONDEMNED before ATTEMPT_START (R38).
The SUSPECT peer 3, below it, is cleared first (R36, R42). -/
theorem test_roundEnd_condemned :
    let t := after (.roundEnd 0x0040 0) (station .member .active .verdict)
    t.own.state = .recovering ∧ t.ru.state = .pulsing ∧ t.ru.pulse = 250 ∧ t.pt.state = .disarmed ∧
    t.hp.queue.map (fun r => r.event) = [.cleared 3, .condemned 6 0, .attemptStart 1] := by decide +kernel

/-- Peers without a frame miss; at the limit of 2 the JOINING entry leaves and the RECOVERING entry is LOST (R10 to R12), before the outcomes. -/
theorem test_roundEnd_misses :
    let s := station .absent .synced .verdict
    let late (e : Entry) : Entry := { e with missCount := 1 }
    let t := after (.roundEnd 0 0) ((s.modifyEntry 4 late).modifyEntry 9 late)
    (t.entry 1).missCount = 1 ∧ t.hp.queue.map (fun r => r.event) =
      [.left 4 .silent, .lost 9, .cleared 3] := by decide +kernel

/-- The recovery window runs out at a round beginning: attempt 2 below the limit, hold at it (R113 to R115). -/
theorem test_recoveryWindow :
    let s := station .recovering .active .rest
    let due (n : Nat) : State := { s with ru := { s.ru with recovery := 1, attempt := n } }
    (after .roundMark (due 1)).ru.attempt = 2 ∧ (after .roundMark (due 2)).ru.state = .held ∧
    (after .roundMark (due 2)).own.state = .absent := by decide +kernel

/-- A collision blocks a joining station, with JOIN_FAILED before DUPLICATE_ADDRESS (R85, R60). -/
theorem test_collision :
    let s := station .joining .active .ownSlot
    let t := after .collision { s with lu := { s.lu with driving := .frame } }
    t.lu.state = .blocked ∧ t.own.state = .absent ∧
    t.hp.queue.map (fun r => r.event) = [.joinFailed .duplicateAddress, .duplicateAddress] := by decide +kernel

/-- A stuck line and its release (R86, R87): the search begins with two round periods. -/
theorem test_lineStuck :
    let t := after .lineStuck (station .member .active (.slots 2))
    t.lu.state = .listening ∧ t.lu.waitRelease = true ∧ t.own.state = .member ∧
    (after .lineReleased t).lu.listenWindow = some 200 := by decide +kernel

/-- An external host reset departs a member as LEAVE does (R66), once for one assertion (R120). -/
theorem test_externalHostReset :
    let t := after (.externalHostReset true) (station .member .active .rest)
    t.own.state = .absent ∧ t.vu.leavePending = true ∧ t.hp.queue.length = 1 ∧
    (after (.externalHostReset true) t).hp.queue.length = 1 := by decide +kernel

/-- MCLR in HELD requests the release while rounds pass and releases at once in BLOCKED (R119). -/
theorem test_mclr :
    let held (line : LineState) (pos : RoundPos) : State :=
      { station .absent line pos with ru := { (station .absent line pos).ru with state := .held, attempt := 2, rstout := true } }
    (after (.mclrAssertion true) (held .synced .rest)).ru.releaseRequested = true ∧
    (after (.mclrAssertion true) (held .blocked .outside)).ru.state = .idle ∧
    (after (.mclrAssertion false) (held .blocked .outside)).ru.state = .held := by decide +kernel

/-- An active-low input asserts its flag with its low level (R126), and the failing condition follows the fail mask (R128). -/
theorem test_inputChange :
    let s := station .member .active .rest
    s.condFlags = 0 ∧ (after (.inputChange 1 false) s).condFlags = 2 ∧
    (after (.inputChange 1 false) s).ownHostState = .fault ∧
    (after (.inputChange 1 false) s).hp.queue.map (fun r => r.event) = [.inputChange 2] := by decide +kernel

/-- A mark that the station drives is over after a millisecond (R74: 100 µs after its leading edge). -/
theorem test_mark_ends : (after .roundTimerExpiry (station .member .active .rest)).idle.lu.driving = .nothing := by decide +kernel

/-- An idle millisecond counts the Prompt Timer, the round timer and nothing else. -/
theorem test_idle :
    (station .member .active .rest).idle.pt.remaining = 699 ∧
    (station .member .active .rest).idle.lu.roundTimer = some 59 ∧
    (station .member .active .rest).idle.ru = (station .member .active .rest).ru := by decide +kernel

/-! ### Witnesses: a state and operands that meet the hypotheses of each statement, clause by clause -/

/-- The sets of members of the small station, without and with the own address. -/
def peersIn : AddrSet := 0x000A
def allIn : AddrSet := 0x004A

/-- The small station with its Reset Unit in HELD and a release requested. -/
def heldStation (line : LineState) (pos : RoundPos) : State :=
  let s := station .absent line pos
  { s with ru := { s.ru with state := .held, attempt := 2, rstout := true, releaseRequested := line == .synced || line == .active } }

/-- The small station out of COMMAND, with a command at the front of its queue. -/
def waitingStation : State :=
  let s := station .member .active (.slots 3)
  { s with hp := { s.hp with phase := .deselected }, pending := [.ownSlotStart, .ncsAssert] }

/-- Idle milliseconds: no count runs out; the Prompt Timer one millisecond before its warning and before its lapse; the pulse one millisecond
before its end; each timer of the line one millisecond before its end, alone and with a count of the Prompt Timer. -/
theorem witness_IdleMillisecond :
    let s := station .member .active .rest
    let warn := { s with pt := { s.pt with remaining := 201 } }
    let lapse := { s with pt := { s.pt with state := .warned, remaining := 1, warn := true } }
    let r := station .recovering .active (.slots 0)
    let pulse := { r with ru := { r.ru with state := .pulsing, pulse := 1, recovery := 0, rstout := true } }
    let round (x : State) : State := { x with lu := { x.lu with roundTimer := some 1 } }
    let listening := station .member .listening .outside
    let window := { listening with lu := { listening.lu with listenWindow := some 1 } }
    let waits (n : Nat) : State :=
      { listening with lu := { listening.lu with waitRelease := true, listenWindow := none, recessiveTime := n } }
    let lineQuiet (x : State) : Prop :=
      ¬ ((x.lu.state = .synced ∨ x.lu.state = .active) ∧ x.lu.pos = .rest ∧ (x.lu.roundTimer = some 0 ∨ x.lu.roundTimer = some 1)) ∧
      ¬ (x.lu.state = .listening ∧ x.lu.waitRelease = false ∧ (x.lu.listenWindow = some 0 ∨ x.lu.listenWindow = some 1)) ∧
      ¬ (x.lu.state = .listening ∧ x.lu.waitRelease = true ∧ x.roundPeriodMs ≤ x.lu.recessiveTime + 1)
    let localQuiet (x : State) : Prop := (x.pt.state = .running → x.warningLead + 1 < x.pt.remaining) ∧
      (x.pt.state = .warned → 1 < x.pt.remaining) ∧ (x.ru.state = .pulsing → 1 < x.ru.pulse)
    (∀ x ∈ [s, warn, lapse, pulse, listening, waits 98], x.pending = [] ∧ lineQuiet x) ∧
    (∀ x ∈ [s, round s, window, waits 98, waits 99], localQuiet x) ∧
    (warn.pt.state = .running ∧ warn.pt.remaining = warn.warningLead + 1 ∧ warn.ru.state = .idle ∧ lapse.pt.state = .warned ∧
      lapse.pt.remaining = 1 ∧ lapse.ru.state = .idle ∧ pulse.ru.state = .pulsing ∧ pulse.ru.pulse = 1 ∧ pulse.pt.state = .disarmed) ∧
    (∀ x ∈ [round s, round warn, round lapse], x.pending = [] ∧ x.lu.state = .active ∧ x.lu.pos = .rest ∧ x.lu.roundTimer = some 1) ∧
    (round warn).pt.remaining = 201 ∧ window.lu.state = .listening ∧ window.lu.waitRelease = false ∧ window.lu.listenWindow = some 1 ∧
    (waits 99).lu.state = .listening ∧ (waits 99).roundPeriodMs ≤ (waits 99).lu.recessiveTime + 1 := by decide +kernel

/-- A working station in the middle of a round, with a command waiting, meets every invariant; its step answers a next state. -/
theorem witness_StepKeepsPins : PinsFollow waitingStation ∧ LineConsistent waitingStation ∧ ∃ t, step waitingStation = .next t :=
  ⟨⟨by decide +kernel, by decide +kernel, by decide +kernel, by decide +kernel⟩,
   ⟨by decide +kernel, by decide +kernel, by intro r h; cases h; decide +kernel, by decide +kernel, by decide +kernel, by decide +kernel, by decide +kernel,
     by decide +kernel, by decide +kernel⟩, _, rfl⟩

theorem witness_StepKeepsPort : PortConsistent waitingStation ∧ ∃ t, step waitingStation = .next t :=
  ⟨⟨by decide +kernel, by decide +kernel, by decide +kernel, by decide +kernel, by decide +kernel⟩, _, rfl⟩

theorem admissions_in_range (a : Addr) (n : Nat) (h : (waitingStation.entry a).admission = some n) : 1 ≤ n ∧ n ≤ 8 := by
  have all : ∀ b : Addr, ((waitingStation.entry b).admission.all fun m => 1 ≤ m && m ≤ 8) = true := by decide +kernel
  simpa [h] using all a

theorem witness_StepKeepsTable : TableKept waitingStation ∧ LineConsistent waitingStation ∧ ∃ t, step waitingStation = .next t :=
  ⟨⟨fun a => ⟨by revert a; decide +kernel, by revert a; decide +kernel, by revert a; decide +kernel,
      admissions_in_range a, by revert a; decide +kernel⟩,
    ⟨by decide +kernel, by decide +kernel, by decide +kernel, by decide +kernel, by decide +kernel⟩, by intro c h; cases h⟩,
    witness_StepKeepsPins.2.1, _, rfl⟩

theorem witness_StepKeepsLine : LineConsistent waitingStation ∧ ∃ t, step waitingStation = .next t :=
  ⟨witness_StepKeepsPins.2.1, _, rfl⟩

theorem witness_StepKeepsPart : PartConsistent waitingStation ∧ ∃ t, step waitingStation = .next t :=
  ⟨⟨witness_StepKeepsPins.2.1,
    ⟨by decide +kernel, by decide +kernel, by decide +kernel, by decide +kernel, by decide +kernel, by decide +kernel, by decide +kernel,
      by decide +kernel⟩,
    ⟨by decide +kernel, by decide +kernel, by decide +kernel, by decide +kernel, by decide +kernel, by decide +kernel, by decide +kernel⟩⟩, _, rfl⟩

/-- A working station whose counts are in range. -/
theorem witness_StepKeepsQueueBounds :
    QueueBounded waitingStation ∧ CountsBounded waitingStation ∧ PartConsistent waitingStation ∧ ∃ t, step waitingStation = .next t := by
  refine ⟨⟨by decide +kernel, by decide +kernel⟩, ?_, witness_StepKeepsPart.1, _, rfl⟩
  constructor
  case roundTimer => intro n h; cases h; decide
  case listenWindow => intro n h; cases h
  case position => intro n h; cases h; decide
  case copy => intro c h; cases h
  all_goals decide +kernel

theorem witness_StepKeepsVotes : VotesConsistent waitingStation ∧ ∃ t, step waitingStation = .next t :=
  ⟨⟨by decide +kernel, by decide +kernel, by decide +kernel, by decide +kernel, by decide +kernel⟩, _, rfl⟩

/-- Sixteen bytes at both ends of a byte's range. -/
theorem witness_LineBitsRoundTrip :
    (List.replicate 16 (0x00 : Byte)).length = 16 ∧ (List.replicate 16 (0xFF : Byte)).length = 16 := by decide

/-- Counts at their upper bounds: a station and a copy whose record is full. -/
theorem witness_RecordsCarryEveryItem :
    let s := station .joining .active .rest
    let full : State := { s with
      vu := { s.vu with voterCount := 16, quorum := 16 }, pt := { s.pt with remaining := 65535 }
      ru := { s.ru with attempt := 7, recovery := 255 }
      hp := { s.hp with queue := List.replicate 32 { round := 41, event := .lineStuck }, lost := 255 }
      lu := { s.lu with garbledTotal := 65535 } }
    let c : Snapshot :=
      { table := s.vu.table.set 4 { peer .joining with missCount := 7, splits := 255, admission := some 8 }, round := 41, voterCount := 16
        quorum := 16 }
    (full.vu.voterCount ≤ 16 ∧ full.vu.quorum ≤ 16 ∧ full.pt.remaining ≤ 65535 ∧ full.ru.attempt ≤ 7 ∧ full.ru.recovery ≤ 255 ∧
      full.hp.queue.length ≤ 32 ∧ full.hp.lost ≤ 255 ∧ full.lu.garbledTotal ≤ 65535) ∧
    (c.voterCount ≤ 16 ∧ c.quorum ≤ 16 ∧ c.table[(4 : Addr)].missCount ≤ 7 ∧ c.table[(4 : Addr)].splits ≤ 255 ∧
      c.table[(4 : Addr)].admission = some 8) := by decide +kernel

/-- A pair of records with the greatest count, and one pair with the same bytes. The clause of the kinds has no hypotheses. -/
theorem witness_EventRecordsDistinct :
    let r : EventRecord := { round := 65535, event := .lossRecord 255 }
    (∀ x ∈ [r, r], match x.event with
      | .condemned _ n | .split _ n | .attemptStart n | .attemptEnd _ n | .hostHeld n | .lossRecord n => n ≤ 255
      | _ => True) ∧ r.bytes = r.bytes := by
  refine ⟨?_, rfl⟩
  intro x h
  simp only [List.mem_cons, List.not_mem_nil, or_false, or_self] at h
  subst h
  decide

/-- Every phase, and a response owed in RESPONSE. -/
theorem witness_TransactionPhases :
    let s := station .member .active .rest
    let deselected := after .ncsRelease s
    let turned := after .status s
    let owed := after .turnaroundEnd turned
    deselected.hp.phase = .deselected ∧ s.hp.phase = .command ∧ s.hp.phase ≠ .deselected ∧ s.hp.phase ≠ .turnaround ∧
    turned.hp.phase = .turnaround ∧ owed.hp.phase = .response ∧ owed.hp.response.isSome = true ∧
    (after .responseDelivered owed).hp.phase = .trailer := by decide +kernel

/-- A response that delivers an event, one that delivers an entry with the cursor at 0, 14 and 15, and one that advances nothing. -/
theorem witness_DeliveryAdvances :
    let owed (c : Instr) (s : State) := after .turnaroundEnd (after c s)
    let s := (station .member .active .rest).post .lineStuck
    let loaded (n : Addr) : State :=
      let t := after .ncsAssert (after .ncsRelease (after .snapshot s))
      { t with hp := { t.hp with cursor := n } }
    s.hp.phase ≠ .response ∧ (owed .status s).hp.phase = .response ∧ (owed .status s).hp.advance = none ∧
    (owed .readEvent s).hp.advance = some .event ∧ (owed .readEvent s).hp.queue = [{ round := 41, event := .lineStuck }] ∧
    (∀ n : Addr, (owed .readEntry (loaded n)).hp.phase = .response ∧ (owed .readEntry (loaded n)).hp.advance = some .entry ∧
      (owed .readEntry (loaded n)).hp.cursor = n) := by decide +kernel

/-- A length byte of 25 and of 24; a wrong check byte; a right check byte under a code that is no command's; no bits and seven bits of an
incomplete byte. -/
theorem witness_BadFrameAnswered :
    (station .member .active .rest).hp.phase = .command ∧ 24 < (25 : Byte).toNat ∧ ((24 : Byte).toNat ≤ 24) ∧
    (List.replicate 24 (0 : Byte)).length = (24 : Byte).toNat ∧ (crc8 [0x10, 0] + 1 ≠ crc8 [0x10, 0]) ∧
    ([] : List Bool).length < 8 ∧ (List.replicate 7 true).length < 8 ∧
    ∀ c : HostCommand, ¬ (c.code = 0x00 ∧ c.params = []) := by
  refine ⟨by decide +kernel, by decide, by decide, by decide, by decide +kernel, by decide, by decide, ?_⟩
  intro c h
  cases c <;> simp [HostCommand.code] at h

/-- A phase that is not COMMAND, and an unconfigured station in COMMAND. -/
theorem witness_CommandsNotExecuted :
    State.reset.hp.phase ≠ .command ∧ (after .ncsAssert State.reset).hp.phase = .command ∧
    (after .ncsAssert State.reset).hp.config = none := by decide +kernel

/-- A configured station, and an unconfigured one with records at and just outside the bounds of each field. -/
theorem witness_ConfigureAnswered :
    let low : ConfigRecord := { roundPeriod := 2, missLimit := 1, admitRounds := 1, quorumFloor := 1, promptPeriod := 100, warningLead := 90
                                recoveryRounds := 2, resetLimit := 1, pulseDuration := 1, failMask := 0, polarity := 0, enables := 0 }
    let high : ConfigRecord := { roundPeriod := 255, missLimit := 7, admitRounds := 8, quorumFloor := 16, promptPeriod := 65535
                                 warningLead := 65525, recoveryRounds := 255, resetLimit := 7, pulseDuration := 255, failMask := 15
                                 polarity := 15, enables := 7 }
    (station .member .active .rest).hp.config ≠ none ∧ (after .ncsAssert State.reset).hp.config = none ∧
    recordInRange low = true ∧ recordInRange high = true ∧
    (∀ r ∈ [{ low with roundPeriod := 1 }, { low with missLimit := 0 }, { high with missLimit := 8 }, { low with admitRounds := 0 },
        { high with admitRounds := 9 }, { low with quorumFloor := 0 }, { high with quorumFloor := 17 }, { low with promptPeriod := 99 },
        { low with warningLead := 9 }, { low with warningLead := 91 }, { low with recoveryRounds := 1 }, { low with resetLimit := 0 },
        { high with resetLimit := 8 }, { low with pulseDuration := 0 }, { low with failMask := 16 }, { low with polarity := 16 },
        { low with enables := 8 }], recordInRange r = false) := by decide +kernel

/-- READ_EVENT on an empty queue and on one with a record. -/
theorem witness_StatusAndReadEventAnswered :
    let s := station .member .active .rest
    s.hp.phase = .command ∧ s.hp.config ≠ none ∧ s.hp.queue = [] ∧
    (s.post .lineStuck).hp.queue = [{ round := 41, event := .lineStuck }] ∧ (s.post .lineStuck).hp.phase = .command := by decide +kernel

/-- RESTART accepted, refused to a member, and refused in HELD. -/
theorem witness_RestartAnswered :
    let s := station .absent .blocked .outside
    s.hp.phase = .command ∧ s.own.state = .absent ∧ s.ru.state = .idle ∧ s.own.incarnation = some 2 ∧
    (station .member .active .rest).own.state ≠ .absent ∧ (heldStation .synced .rest).ru.state ≠ .idle := by decide +kernel

/-- JOIN accepted from ABSENT and from RECOVERING in WAITING, and refused on the line state, on the entry and on the reset state. -/
theorem witness_JoinAnswered :
    let s := station .absent .synced .rest
    let r := station .recovering .active .rest
    s.hp.phase = .command ∧ s.hp.config ≠ none ∧ s.lu.state = .synced ∧ s.own.state = .absent ∧ s.ru.state = .idle ∧
    s.own.incarnation = some 2 ∧ r.lu.state = .active ∧ r.own.state = .recovering ∧ r.ru.state = .waiting ∧
    (station .absent .listening .outside).lu.state = .listening ∧ (station .member .active .rest).own.state = .member ∧
    (heldStation .synced .rest).ru.state = .held := by decide +kernel

/-- LEAVE from each state of the own entry. -/
theorem witness_LeaveAnswered :
    (∀ e ∈ [EntryState.absent, .joining, .member, .suspect, .recovering], (station e .active .rest).own.state = e) ∧
    (station .member .active .rest).hp.phase = .command ∧ (station .member .active .rest).hp.config ≠ none := by decide +kernel

/-- ACCUSE with a byte of 16, the own address, a peer that is no member, a MEMBER, a SUSPECT and an accused SUSPECT peer. -/
theorem witness_AccuseAnswered :
    let s := station .member .active .rest
    let t := { s with vu := { s.vu with hostAccused := 0x0008 } }
    s.hp.phase = .command ∧ s.hp.config ≠ none ∧ 15 < (16 : Byte).toNat ∧ (6 : Byte).toNat = s.hp.address.val ∧
    (15 : Byte).toNat = (15 : Addr).val ∧ (s.entry 15).state.isMember = false ∧ s.own.state.isMember = true ∧
    (s.entry 1).state = .member ∧ (s.entry 3).state = .suspect ∧ inSet 3 s.vu.hostAccused = false ∧ inSet 3 t.vu.hostAccused = true := by
  decide +kernel

/-- PARDON with the bytes 15 and 16. -/
theorem witness_PardonAndPublishAnswered :
    (station .member .active .rest).hp.phase = .command ∧ (station .member .active .rest).hp.config ≠ none ∧ 15 < (16 : Byte).toNat ∧
    (15 : Byte).toNat = (15 : Addr).val := by decide +kernel

/-- PROMPT in each state of the timer, with the expected number and with another. -/
theorem witness_PromptAnswered :
    let s := station .member .active .rest
    let inState (x : TimerState) : State := { s with pt := { s.pt with state := x } }
    s.hp.phase = .command ∧ s.hp.config ≠ none ∧
    (∀ x ∈ [TimerState.disarmed, .running, .warned, .lapsed], (inState x).pt.state = x ∧ (inState x).pt.expected = 9) ∧ (9 : Byte) ≠ 10 := by
  decide +kernel

/-- A FREE and a LOADED buffer. -/
theorem witness_SnapshotCommandsAnswered :
    let s := station .member .active .rest
    let t := after .ncsAssert (after .ncsRelease (after .snapshot s))
    s.hp.phase = .command ∧ s.hp.config ≠ none ∧ s.hp.snapshot = none ∧ t.hp.phase = .command ∧ t.hp.snapshot.isSome = true := by
  decide +kernel

/-- An unconfigured station, a configured one with every class enabled, one with none, and a queue with one free place. -/
theorem witness_PostsByClass :
    let s := station .member .active .rest
    let none' : State := { s with hp := { s.hp with config := some { record with enables := 0 } } }
    let almost : State := { s with hp := { s.hp with queue := List.replicate 31 { round := 41, event := .lineStuck }, int := true } }
    State.reset.hp.config = none ∧ s.hp.config = some record ∧
    none'.hp.enabled (Event.lineStuck.klass none'.hp.address) = false ∧
    almost.hp.enabled (Event.lineStuck.klass almost.hp.address) = true ∧ almost.hp.queue.length < 32 ∧ almost.hp.lost = 0 := by
  decide +kernel

/-- A full queue with lost counts 253, 254 and 255, every class enabled. -/
theorem witness_FullQueueCountsLoss :
    let s := station .member .active .rest
    let full (n : Nat) : State := { s with hp := { s.hp with queue := List.replicate 32 { round := 41, event := .lineStuck }, lost := n } }
    (∀ n ∈ [253, 254, 255], (full n).hp.queue.length = 32 ∧ (full n).hp.lost ≤ 255 ∧
      (full n).hp.enabled (Event.lineStuck.klass (full n).hp.address) = true ∧ (full n).hp.enabled (some .self) = true) ∧
    (full 253).hp.lost ≤ 253 ∧ (full 254).hp.lost < 255 ∧ (full 255).hp.lost = 255 := by decide +kernel

/-- Losses counted, with room for two, with room for one, and a class that is not enabled; a delivery. -/
theorem witness_LossRecordQueued :
    let s := station .member .active .rest
    let q (n lost : Nat) : State := { s with hp := { s.hp with queue := List.replicate n { round := 41, event := .lineStuck }, lost := lost } }
    (1 ≤ (q 30 1).hp.lost ∧ (q 30 1).hp.queue.length + 2 ≤ 32 ∧ (q 30 1).hp.enabled (Event.lineStuck.klass 6) = true) ∧
    ((q 31 255).hp.lost ≤ 255 ∧ (q 31 255).hp.queue.length + 1 = 32 ∧ (q 31 255).hp.enabled (Event.lineStuck.klass 6) = true) ∧
    ({ (q 30 1).hp with config := some { record with enables := 3 } }).enabled (Event.lineStuck.klass 6) = false ∧
    (∃ t, exec .responseDelivered (q 30 1) = .next t) := by
  refine ⟨by decide +kernel, by decide +kernel, by decide +kernel, _, rfl⟩

/-- A round beginning in the rest, with and without a waiting attempt, and an event inside the fixed part. -/
theorem witness_RoundBegins :
    let s := station .member .active .rest
    let r := station .recovering .synced .rest
    s.lu.state = .active ∧ s.lu.pos = .rest ∧ (∀ a : Addr, inSet a allIn = (s.entry a).state.isMember) ∧ s.ru.state ≠ .waiting ∧
    r.lu.state = .synced ∧ r.lu.pos = .rest ∧ (∀ a : Addr, inSet a peersIn = (r.entry a).state.isMember) ∧ r.ru.state = .waiting ∧
    1 < r.ru.recovery ∧ (station .member .active (.slots 0)).lu.pos ≠ .rest := by decide +kernel

/-- The last round of a window below the reset limit, and at it, in the rest and while searching. -/
theorem witness_RecoveryWindowEnds :
    let r := station .recovering .active .rest
    let l := station .recovering .listening .outside
    let due (n : Nat) : State := { r with ru := { r.ru with recovery := 1, attempt := n } }
    let search (n : Nat) : State := { l with ru := { l.ru with recovery := 1, attempt := n } }
    ((∀ a : Addr, inSet a peersIn = (l.entry a).state.isMember) ∧ (search 1).lu.state = .listening ∧ (search 1).lu.waitRelease = false ∧
      (search 1).ru.state = .waiting ∧ (search 1).ru.recovery = 1 ∧ (search 1).ru.attempt < (search 1).resetLimit ∧
      (search 2).ru.attempt = (search 2).resetLimit ∧ (search 2).own.state = .recovering ∧
      inSet (search 2).hp.address (search 2).vu.hostAccused = false) ∧
    (∀ a : Addr, inSet a peersIn = (r.entry a).state.isMember) ∧
    (due 1).lu.state = .active ∧ (due 1).ru.state = .waiting ∧ (due 1).ru.recovery = 1 ∧ (due 1).ru.attempt < (due 1).resetLimit ∧
    (due 1).lu.pos = .rest ∧ (due 2).ru.attempt = (due 2).resetLimit ∧ (due 2).own.state = .recovering ∧
    inSet (due 2).hp.address (due 2).vu.hostAccused = false := by decide +kernel

/-- A searching station, one with a waiting attempt, a waiting one for release, a DETACHED, a BLOCKED and an ACTIVE one. -/
theorem witness_SearchingStationSynced :
    let s := station .absent .listening .outside
    let r := station .recovering .listening .outside
    let w := { s with lu := { s.lu with waitRelease := true, listenWindow := none } }
    (∀ a : Addr, inSet a peersIn = (s.entry a).state.isMember) ∧ (∀ a : Addr, inSet a peersIn = (r.entry a).state.isMember) ∧
    s.lu.state = .listening ∧ s.lu.waitRelease = false ∧ s.ru.state = .idle ∧ r.ru.state = .waiting ∧ 1 < r.ru.recovery ∧
    w.lu.state = .listening ∧ w.lu.waitRelease = true ∧ (station .absent .blocked .outside).lu.state = .blocked ∧
    State.reset.lu.state = .detached ∧ (station .member .active .rest).lu.state = .active := by decide +kernel

/-- The own slot of a member with a LAPSED timer: it accuses itself and the host-accused peer 1; the own address is the boundary. -/
theorem witness_OwnSlotComposed :
    let m := station .member .active (.slots 6)
    let s := { m with pt := { m.pt with state := .lapsed, remaining := 0, warn := true }, vu := { m.vu with hostAccused := 0x0002 } }
    s.lu.state = .active ∧ s.lu.pos = .slots 6 ∧ 6 ≤ s.hp.address.val ∧ s.own.incarnation = some 2 ∧
    s.hp.digest = some (profileDigest record) ∧
    (∀ j : Addr, inSet j (0x0042 : AddrSet) = true ↔ s.own.state.isMember = true ∧
      if j = s.hp.address then s.ownHostState = .lapsed ∨ s.ownHostState = .fault
      else (s.entry j).state.isMember = true ∧ (s.missLimit ≤ (s.entry j).missCount ∨ (s.entry j).hostState = .lapsed ∨
        (s.entry j).hostState = .fault ∨ inSet j s.vu.hostAccused = true)) := by decide +kernel

/-- Each reset state and timer state, with and without the failing condition. -/
theorem witness_OwnHostStatePriority :
    let s := station .member .active .rest
    let failing := after (.inputChange 1 false) s
    (heldStation .synced .rest).ru.state = .held ∧ (station .recovering .active .rest).ru.state = .waiting ∧ s.ru.state = .idle ∧
    s.pt.state = .running ∧ s.failing = false ∧ failing.failing = true ∧ failing.pt.state ≠ .lapsed ∧
    (after .promptWarning s).pt.state = .warned ∧ (after .promptLapsed (after .promptWarning s)).pt.state = .lapsed ∧
    (station .absent .synced .rest).pt.state = .disarmed ∧ State.reset.hp.config = none ∧ s.hp.config = some record := by decide +kernel

/-- The own slot with a frame being sent, without one in SYNCED, and another position. -/
theorem witness_OwnSlotEnds :
    let t := after .ownSlotStart (station .member .active (.slots 3))
    let u := after .ownSlotStart (station .absent .synced (.slots 3))
    t.lu.state = .active ∧ t.lu.pos = .ownSlot ∧ t.lu.driving = .frame ∧ t.lu.ownFrame.isSome = true ∧
    u.lu.state = .synced ∧ u.lu.pos = .ownSlot ∧ u.lu.driving ≠ .frame ∧ (station .member .active .rest).lu.pos ≠ .ownSlot := by
  decide +kernel

/-- Slots that may close: the first, the one before the own, the one after it and the last. -/
theorem slotOpen_boundaries :
    SlotOpen (station .member .active (.slots 0)) 0 ∧ SlotOpen (station .member .active (.slots 0)) 5 ∧
    SlotOpen (station .absent .synced (.slots 7)) 7 ∧ SlotOpen (station .member .active (.slots 15)) 15 :=
  ⟨⟨by decide +kernel, by decide, 0, by decide +kernel⟩, ⟨by decide +kernel, by decide, 0, by decide +kernel⟩,
   ⟨by decide +kernel, by decide, 7, by decide +kernel⟩, ⟨by decide +kernel, by decide, 15, by decide +kernel⟩⟩

/-- Frames in step from a peer below the own address, at the start of the round, and from one above it, after the own slot. -/
theorem inStep_low (own : EntryState) (k : Addr) (f : FrameBody) (hk : k.val < 6) (hd : f.digest = profileDigest record)
    (hr : f.round = 41) : InStep (station own .active (.slots 0)) k f where
  slot := ⟨.inr rfl, fun h => by rw [h] at hk; exact absurd hk (show ¬ (6 : Addr).val < 6 by decide), 0, rfl, Nat.zero_le _, .inr hk⟩
  digest := by rw [hd]; rfl
  round := .inr hr

theorem inStep_high (own : EntryState) (k : Addr) (f : FrameBody) (hk : 7 ≤ k.val) (hd : f.digest = profileDigest record)
    (hr : f.round = 41) : InStep (station own .active (.slots 7)) k f where
  slot := ⟨.inr rfl, fun h => by rw [h] at hk; exact absurd hk (show ¬ 7 ≤ (6 : Addr).val by decide), 7, rfl, hk, .inl (show (6 : Addr).val < 7 by decide)⟩
  digest := by rw [hd]; rfl
  round := .inr hr

theorem witness_PeerSlotWithoutFrame :
    SlotOpen (station .member .active (.slots 0)) 5 ∧ bytesOfLine [false, true] = none ∧
    bytesOfLine (lineBits (List.replicate 16 0)) = some (List.replicate 16 0) ∧ frameOfBytes 5 (List.replicate 16 0) = none ∧
    (4 : Addr) ≠ 5 := ⟨slotOpen_boundaries.2.1, by decide +kernel⟩

/-- Commands of the round out of their place: no rounds, the own slot or the field not before them, and for the slot commands no rounds, the own slot,
a slot closed before, and one behind an own slot that has not come (the boundaries of OwnSlotComposed, PeerSlotWithoutFrame, ForeignAndOutOfStepFrames,
VerdictFieldDriven and RoundEndWork). -/
theorem witness_outOfPlace :
    let l := station .absent .listening .outside
    let early := station .member .active (.slots 6)
    let late := station .member .active (.slots 7)
    (∀ n, ¬ ((l.lu.state = .synced ∨ l.lu.state = .active) ∧ l.lu.pos = .slots n ∧ n ≤ l.hp.address.val)) ∧
    (∀ n, ¬ ((late.lu.state = .synced ∨ late.lu.state = .active) ∧ late.lu.pos = .slots n ∧ n ≤ late.hp.address.val)) ∧
    (∀ n, ¬ ((early.lu.state = .synced ∨ early.lu.state = .active) ∧ early.lu.pos = .slots n ∧ early.hp.address.val < n)) ∧
    ¬ SlotOpen l 5 ∧ ¬ SlotOpen early 6 ∧ ¬ SlotOpen late 5 ∧ ¬ SlotOpen early 7 ∧
    ¬ ((early.lu.state = .synced ∨ early.lu.state = .active) ∧ early.lu.pos = .verdict) := by
  refine ⟨?_, ?_, ?_, ?_, ?_, ?_, ?_, by decide +kernel⟩
  · rintro n ⟨h, _⟩; exact absurd h (by decide +kernel)
  · rintro n ⟨_, h, hn⟩; cases h; exact absurd hn (by decide +kernel)
  · rintro n ⟨_, h, hn⟩; cases h; exact absurd hn (by decide +kernel)
  · intro h; exact absurd h.online (by decide +kernel)
  · intro h; exact absurd h.peer (by decide +kernel)
  · intro h; obtain ⟨n, hp, hn, _⟩ := h.position; cases hp; exact absurd hn (by decide)
  · intro h; obtain ⟨n, hp, _, ho⟩ := h.position; cases hp; exact absurd ho (by decide +kernel)

/-- A frame of another profile and one out of step, at a joining station too. -/
theorem witness_ForeignAndOutOfStepFrames :
    let s := station .joining .active (.slots 0)
    SlotOpen s 5 ∧ s.hp.digest = some (profileDigest record) ∧ profileDigest record ≠ frame.digest + 1 ∧
    profileDigest record = frame.digest ∧ s.lu.adoptOpen = false ∧ (40 : Word16) ≠ s.lu.roundNumber :=
  ⟨⟨by decide +kernel, by decide, 0, by decide +kernel⟩, by decide +kernel⟩

/-- An observer, and senders in each state: ABSENT, JOINING, MEMBER and RECOVERING; codes 1, 5 and 6. -/
theorem witness_ObserverAdoptsFrame :
    let s := station .absent .active (.slots 0)
    InStep s 1 frame ∧ s.own.state = .absent ∧ s.vu.hostAccused = 0 ∧ (s.entry 12).state = .absent ∧ (s.entry 4).state = .joining ∧
    (s.entry 1).state = .member ∧ (s.entry 9).state = .recovering ∧ HostState.ofCode 6 = .held ∧ HostState.ofCode 5 = .resetting ∧
    HostState.ofCode frame.hostCode = .running :=
  ⟨inStep_low .absent 1 frame (by decide) (by decide +kernel) (by decide +kernel), by decide +kernel⟩

theorem witness_AnnounceFromAbsentEntry :
    let s := station .member .active (.slots 7)
    InStep s 12 frame ∧ InStep s 12 { frame with hostCode := 6 } ∧ s.own.state ≠ .absent ∧ (s.entry 12).state = .absent ∧
    HostState.ofCode frame.hostCode ≠ .held ∧ HostState.ofCode 6 = .held :=
  ⟨inStep_high .member 12 _ (by decide) (by decide +kernel) (by decide +kernel), inStep_high .member 12 _ (by decide) (by decide +kernel) (by decide +kernel),
   by decide +kernel⟩

theorem witness_RestartedOrHeldEntryEnds :
    let s := station .member .active (.slots 0)
    InStep s 1 { frame with incarnation := 3 } ∧ InStep s 1 { frame with hostCode := 6 } ∧ s.own.state ≠ .absent ∧
    (s.entry 1).state ≠ .absent ∧ (s.entry 1).incarnation = some frame.incarnation ∧ (2 : Byte) ≠ 3 ∧ HostState.ofCode 6 = .held :=
  ⟨inStep_low .member 1 _ (by decide) (by decide +kernel) (by decide +kernel), inStep_low .member 1 _ (by decide) (by decide +kernel) (by decide +kernel),
   by decide +kernel⟩

theorem witness_JoinerAnnounces :
    let s := station .member .active (.slots 0)
    InStep s 4 frame ∧ InStep s 4 { frame with hostCode := 5 } ∧ InStep s 4 { frame with hostCode := 3 } ∧ s.own.state ≠ .absent ∧
    (s.entry 4).state = .joining ∧ (s.entry 4).incarnation = some frame.incarnation ∧ inSet 4 s.vu.hostAccused = false ∧
    1 ≤ s.missLimit ∧ HostState.ofCode 5 = .resetting ∧ HostState.ofCode 3 = .lapsed :=
  ⟨inStep_low .member 4 _ (by decide) (by decide +kernel) (by decide +kernel), inStep_low .member 4 _ (by decide) (by decide +kernel) (by decide +kernel),
   inStep_low .member 4 _ (by decide) (by decide +kernel) (by decide +kernel), by decide +kernel⟩

theorem witness_MemberAnnounces :
    let s := station .member .active (.slots 0)
    let t := station .member .active (.slots 7)
    let f := { frame with accuses := 0x0002, view := 0x0002, flags := 1, service := 7, hostCode := 3 }
    InStep s 1 f ∧ InStep s 3 f ∧ InStep t 9 f ∧ s.own.state ≠ .absent ∧ (s.entry 1).state.isMember = true ∧
    (s.entry 3).state.isMember = true ∧ (t.entry 9).state = .recovering ∧ (s.entry 3).incarnation = some f.incarnation ∧
    HostState.ofCode f.hostCode ≠ .held ∧ 1 ≤ s.missLimit :=
  ⟨inStep_low .member 1 _ (by decide) (by decide +kernel) (by decide +kernel), inStep_low .member 3 _ (by decide) (by decide +kernel) (by decide +kernel),
   inStep_high .member 9 _ (by decide) (by decide +kernel) (by decide +kernel), by decide +kernel⟩

theorem witness_JoinFrameApplied :
    let s := station .member .active (.slots 0)
    let last := s.setEntry 4 { s.entry 4 with admission := some 1 }
    InStep s 4 frame ∧ InStep s 4 { frame with incarnation := 3 } ∧ InStep s 1 frame ∧ InStep s 3 frame ∧
    (s.own.state ≠ .absent ∧ (s.entry 4).state = .joining ∧ (s.entry 4).admission = some 2 ∧ inSet 4 s.vu.hostAccused = false ∧
      (s.entry 4).incarnation = some frame.incarnation ∧ (last.entry 4).admission = some 1 ∧ (last.entry 4).state = .joining ∧
      1 ≤ s.missLimit ∧ (s.entry 1).state = .member ∧ (s.entry 1).incarnation = some 2 ∧ (s.entry 9).state = .recovering ∧
      (s.entry 12).state = .absent ∧ last.lu = s.lu ∧ last.hp = s.hp) :=
  ⟨inStep_low .member 4 _ (by decide) (by decide +kernel) (by decide +kernel), inStep_low .member 4 _ (by decide) (by decide +kernel) (by decide +kernel),
   inStep_low .member 1 _ (by decide) (by decide +kernel) (by decide +kernel), inStep_low .member 3 _ (by decide) (by decide +kernel) (by decide +kernel),
   by decide +kernel⟩

theorem witness_LeaveFrameApplied :
    let s := station .member .active (.slots 0)
    let t := station .member .active (.slots 7)
    InStep s 1 frame ∧ InStep t 12 frame ∧ s.own.state ≠ .absent ∧ (s.entry 1).state ≠ .absent ∧ (t.entry 12).state = .absent ∧
    (t.entry 12).admission = none ∧ inSet 12 t.vu.hostAccused = false :=
  ⟨inStep_low .member 1 _ (by decide) (by decide +kernel) (by decide +kernel), inStep_high .member 12 _ (by decide) (by decide +kernel) (by decide +kernel),
   by decide +kernel⟩

/-- A driving station with one accuser for SUSPECT peer 3 below Q, one with two, and one that abstains. -/
theorem witness_VerdictFieldDriven :
    let s := station .member .active (.slots 7)
    let by' (x : AddrSet) : State := { s with vu := { s.vu with tally := s.vu.tally.set 3 x } }
    let abstains : State := { s with lu := { s.lu with outOfStep := 1 } }
    let met (s : State) (condemn clear : AddrSet) : Prop :=
      (s.lu.state = .synced ∨ s.lu.state = .active) ∧ s.lu.pos = .slots 7 ∧ s.hp.address.val < 7 ∧
      (∀ j : Addr, inSet j condemn = true ↔ (inSet s.hp.address s.vu.voters = true ∧ (s.own.state = .member ∨ s.own.state = .suspect) ∧
        s.lu.state = .active ∧ ¬ s.lu.inStep < s.lu.outOfStep) ∧ j ≠ s.hp.address ∧ (s.entry j).state = .suspect ∧
        s.vu.quorum ≤ setSize s.vu.tally[j]) ∧
      (∀ j : Addr, inSet j clear = true ↔ (inSet s.hp.address s.vu.voters = true ∧ (s.own.state = .member ∨ s.own.state = .suspect) ∧
        s.lu.state = .active ∧ ¬ s.lu.inStep < s.lu.outOfStep) ∧ j ≠ s.hp.address ∧ (s.entry j).state = .suspect ∧
        setSize s.vu.tally[j] < s.vu.quorum)
    met (by' 0x0042) 0x0008 0 ∧ met (by' 0x0002) 0 0x0008 ∧ met abstains 0 0 := by
  refine ⟨?_, ?_, ?_⟩ <;> refine ⟨by decide +kernel, by decide +kernel, by decide +kernel, by decide +kernel, by decide +kernel⟩

/-- A round that is resynchronised by exactly half of its frames, and one that is not. -/
theorem witness_Resynchronised :
    let s := station .member .active .verdict
    let half (n : Word16) : State := { s with lu := { s.lu with outcomes := [(1, .outOfStep n), (3, .frame 41)] } }
    (half 42).lu.resyncNumber = some 42 ∧ (half 40).lu.resyncNumber = none := by decide +kernel

/-- A JOINING, a MEMBER and a RECOVERING peer at the miss limit, one below it, one with a FRAME and an ABSENT one. -/
theorem witness_MissAccounting :
    let s := station .member .active .verdict
    let late (j : Addr) : State := s.modifyEntry j (fun e => { e with missCount := 7 })
    let framed : State := { s with lu := { s.lu with outcomes := [(1, .frame 41)] } }
    (∀ j ∈ [(1 : Addr), 3, 4, 9], j ≠ s.hp.address ∧ (s.entry j).state ≠ .absent ∧ s.lu.outcomeOf j = .silent ∧
      min 7 ((s.entry j).missCount + 1) < s.missLimit ∧ s.missLimit ≤ min 7 (((late j).entry j).missCount + 1)) ∧
    framed.lu.outcomeOf 1 = .frame 41 ∧ (s.entry 12).state = .absent ∧ s.own.state.isMember = true ∧
    (station .absent .synced .verdict).own.state.isMember = false := by decide +kernel

/-- Each verdict at a member peer, at one that is none and at the own address; a SUSPECT peer with and without an accuser and evidence. -/
theorem witness_VerdictApplied :
    let s := station .member .active .verdict
    let accused : State := { s with vu := { s.vu with tally := s.vu.tally.set 3 0x0002 } }
    let evident : State := { s with vu := { s.vu with hostAccused := 0x0008 } }
    verdictOf 0x0008 0 3 = .condemn ∧ verdictOf 0 0x0008 3 = .clear ∧ verdictOf 0x0008 0x0008 3 = .split ∧ verdictOf 0 0 3 = .none ∧
    (s.entry 3).state = .suspect ∧ (s.entry 4).state.isMember = false ∧ s.own.state.isMember = true ∧
    setSize s.vu.tally[(3 : Addr)] = 0 ∧ setSize accused.vu.tally[(3 : Addr)] ≠ 0 ∧ inSet 3 evident.vu.hostAccused = true ∧
    (s.entry 3).hostState = .running ∧ (s.entry 3).missCount < s.missLimit := by decide +kernel

/-- A joining station: not whole, with two rounds and with one round to go, and with the foreign mark. -/
theorem witness_AdmissionStepTaken :
    let s := station .joining .active .verdict
    let sent (n : Nat) : State :=
      let t := s.modifyEntry 6 (fun e => { e with admission := some n })
      { t with lu := { t.lu with ownFrame := some { kind := .join, body := frame }, ownWhole := true } }
    let foreign : State := { s with vu := { s.vu with foreignMark := true } }
    s.own.state = .joining ∧ inSet s.hp.address s.vu.hostAccused = false ∧ s.lu.ownWhole = false ∧ s.vu.foreignMark = false ∧
    foreign.vu.foreignMark = true ∧ (∀ n ∈ [1, 2], (sent n).own.state = .joining ∧ (sent n).own.admission = some n ∧
      (sent n).lu.ownWhole = true ∧ ((sent n).lu.ownFrame.map fun f => f.kind) = some .join ∧ (sent n).own.incarnation = some 2) ∧
    (station .member .active .verdict).own.state ≠ .joining := by decide +kernel

/-- A round end that condemns the member peer 1 and the own member, and one that carries a release out and condemns the member peer 1. -/
theorem witness_RoundEndWork :
    let s := station .member .active .verdict
    let h := heldStation .active .verdict
    (h.lu.state = .active ∧ h.lu.pos = .verdict ∧ h.ru.state = .held ∧ h.ru.releaseRequested = true ∧ h.own.state = .absent ∧
      (1 : Addr) ≠ h.hp.address ∧ (h.entry 1).state.isMember = true) ∧
    s.lu.state = .active ∧ s.lu.pos = .verdict ∧ ¬ (s.ru.state = .held ∧ s.ru.releaseRequested = true) ∧
    (1 : Addr) ≠ s.hp.address ∧ (s.entry 1).state.isMember = true ∧ inSet 1 (s.lu.condemnDrive ||| 0x0042) = true ∧
    inSet 1 (s.lu.clearDrive ||| 0) = false ∧ s.own.state.isMember = true ∧ s.ru.state = .idle ∧ s.ru.attempt = 0 ∧
    inSet s.hp.address (s.lu.condemnDrive ||| 0x0042) = true ∧ inSet s.hp.address (s.lu.clearDrive ||| 0) = false := by decide +kernel

/-- A collision while the own frame is sent, one that waits for the line, and none. -/
theorem witness_CollisionBlocks :
    let t := after .ownSlotStart (station .joining .active (.slots 3))
    let w := after (.ownSlotEnd false) t
    t.lu.state = .active ∧ t.lu.driving = .frame ∧ w.lu.collisionPending = true ∧ w.lu.state = .active ∧
    ¬ (t.ru.state = .held ∧ t.ru.releaseRequested = true) ∧ (station .member .active .rest).lu.driving = .nothing ∧
    (station .member .active .rest).lu.collisionPending = false := by decide +kernel

/-- A station in a round, one waiting for release, two that read no line, and one that searches. -/
theorem witness_StuckAndReleasedLine :
    let s := station .member .active .rest
    let w := after .lineStuck s
    s.lu.state = .active ∧ ¬ (s.ru.state = .held ∧ s.ru.releaseRequested = true) ∧ w.lu.state = .listening ∧ w.lu.waitRelease = true ∧
    State.reset.lu.state = .detached ∧ (station .absent .blocked .outside).lu.state = .blocked ∧
    (station .absent .listening .outside).lu.state = .listening ∧ (station .absent .listening .outside).lu.waitRelease = false := by
  decide +kernel

/-- Each state of the Prompt Timer and of the Reset Unit that an event of a count asks for. -/
theorem witness_CountsRunOut :
    let s := station .member .active .rest
    let r := station .recovering .active .rest
    let p := { r with ru := { r.ru with state := .pulsing, recovery := 0, pulse := 250, rstout := true } }
    s.pt.state = .running ∧ s.pt.state ≠ .warned ∧ (after .promptWarning s).pt.state = .warned ∧ r.pt.state ≠ .running ∧
    p.ru.state = .pulsing ∧ s.ru.state ≠ .pulsing ∧ s.ru.state ≠ .waiting ∧ r.ru.state = .waiting ∧ 1 < r.ru.recovery ∧
    (station .recovering .listening .outside).lu.state = .listening := by decide +kernel

/-- An assertion in IDLE taken and not taken before, in WAITING, and each own entry it meets. -/
theorem witness_ExternalReset :
    let s := station .member .active .rest
    s.ru.state = .idle ∧ s.ru.rstLatched = false ∧ (after (.externalHostReset true) s).ru.rstLatched = true ∧
    (after (.externalHostReset true) s).ru.state = .idle ∧ (station .recovering .active .rest).ru.state ≠ .idle ∧
    (station .absent .synced .rest).own.state = .absent ∧ (station .joining .active .rest).own.state = .joining := by decide +kernel

/-- MCLR in HELD with and without rounds, outside HELD, and not ready; a requested release at a round end, a stuck line, a collision. -/
theorem witness_MclrReleasesHost :
    let h := heldStation .active .verdict
    let b := heldStation .blocked .outside
    let c := { heldStation .active .ownSlot with lu := { (heldStation .active .ownSlot).lu with driving := .frame } }
    let w := after (.ownSlotEnd false) c
    (w.ru.state = .held ∧ w.ru.releaseRequested = true ∧ w.own.state = .absent ∧ w.lu.state = .active ∧ w.lu.collisionPending = true) ∧
    h.ru.state = .held ∧ h.ru.releaseRequested = true ∧ h.own.state = .absent ∧ h.lu.state = .active ∧ h.lu.pos = .verdict ∧
    h.ru.mclrReady = true ∧ b.lu.state ≠ .synced ∧ b.lu.state ≠ .active ∧ b.ru.state = .held ∧ b.ru.mclrReady = true ∧
    (after (.mclrAssertion true) b).ru.mclrReady = false ∧ (station .member .active .rest).ru.state ≠ .held ∧
    c.ru.state = .held ∧ c.ru.releaseRequested = true ∧ c.own.state = .absent ∧ c.lu.state = .active ∧ c.lu.driving = .frame := by
  decide +kernel

/-- Two sets of levels that agree below bit 4 agree at every bit. -/
theorem levels_agree (x y : BitVec 4) (n : Nat) (h : ∀ m, m < 4 → m ≠ n → x.getLsbD m = y.getLsbD m) :
    ∀ m, m ≠ n → x.getLsbD m = y.getLsbD m := by
  intro m hm
  by_cases h4 : m < 4
  · exact h m h4 hm
  · rw [BitVec.getLsbD_of_ge x m (by omega), BitVec.getLsbD_of_ge y m (by omega)]

/-- Inputs 0 and 3: a level that changes, one that does not, before and after configuration. -/
theorem witness_InputChangeTaken :
    let s := station .member .active .rest
    ((0x3 : BitVec 4).getLsbD 0 = true ∧ (∀ m, m ≠ 0 → (0x3 : BitVec 4).getLsbD m = s.cm.levels.getLsbD m) ∧
      s.cm.levels.getLsbD 0 ≠ true ∧ s.hp.config ≠ none) ∧
    ((0x2 : BitVec 4).getLsbD 3 = false ∧ (∀ m, m ≠ 3 → (0x2 : BitVec 4).getLsbD m = s.cm.levels.getLsbD m) ∧
      s.cm.levels.getLsbD 3 = false) ∧
    ((0x8 : BitVec 4).getLsbD 3 = true ∧ (∀ m, m ≠ 3 → (0x8 : BitVec 4).getLsbD m = State.reset.cm.levels.getLsbD m) ∧
      State.reset.cm.levels.getLsbD 3 ≠ true ∧ State.reset.hp.config = none) :=
  ⟨⟨by decide, levels_agree _ _ 0 (by decide +kernel), by decide +kernel, by decide +kernel⟩,
   ⟨by decide, levels_agree _ _ 3 (by decide +kernel), by decide +kernel⟩,
   ⟨by decide, levels_agree _ _ 3 (by decide +kernel), by decide +kernel, by decide +kernel⟩⟩

end Sys2Proof.Tests
end

section
/-! SUPPORT. The invariants of Safety.lean through the shared operations, for each operation one lemma that says which of them it keeps; and the
statements about the Peer Table: the invariants of every step, the frames of a round, the own slot, the misses and a collision. -/

namespace Sys2Proof.Machine

/-! ### Entries that keep their form (R1, R2) -/

theorem Entry.moveTo_missCount_le (st : EntryState) (e : Entry) : (e.moveTo st).missCount ≤ e.missCount := by
  unfold Entry.moveTo; dsimp only; split
  · exact Nat.zero_le _
  · exact le_rfl

theorem Entry.moveTo_splits_le (st : EntryState) (e : Entry) : (e.moveTo st).splits ≤ e.splits := by
  unfold Entry.moveTo; dsimp only; split
  · exact Nat.zero_le _
  · exact le_rfl

/-- An entry moved to a state other than JOINING keeps its form where it is given an incarnation, or ends ABSENT. -/
theorem EntryKept.moveTo {e : Entry} (h : EntryKept e) {st : EntryState} (hst : st ≠ .joining)
    (hi : st ≠ .absent → e.incarnation.isSome = true) : EntryKept (e.moveTo st) where
  missCount := (e.moveTo_missCount_le st).trans h.missCount
  splits := (e.moveTo_splits_le st).trans h.splits
  admission := by simp [hst]
  admissionRange := by simp [hst]
  incarnation := by simpa using hi

theorem EntryKept.moveTo_absent {e : Entry} (h : EntryKept e) : EntryKept (e.moveTo .absent) :=
  h.moveTo (by decide) (fun hc => absurd rfl hc)

theorem EntryKept.recordIncarnation {e : Entry} (h : EntryKept e) (f : FrameBody) : EntryKept (e.recordIncarnation f) where
  missCount := h.missCount
  splits := h.splits
  admission := h.admission
  admissionRange := h.admissionRange
  incarnation := fun _ => rfl

theorem EntryKept.report {e : Entry} (h : EntryKept e) (f : FrameBody) : EntryKept (e.report f) :=
  ⟨h.missCount, h.splits, h.admission, h.admissionRange, h.incarnation⟩

theorem EntryKept.noSplits {e : Entry} (h : EntryKept e) : EntryKept { e with splits := 0 } :=
  ⟨h.missCount, Nat.zero_le _, h.admission, h.admissionRange, h.incarnation⟩

/-- An entry that records a frame's incarnation may take any state but JOINING with it. -/
theorem EntryKept.moveTo_recorded {e : Entry} (h : EntryKept e) {st : EntryState} (hst : st ≠ .joining) (f : FrameBody) :
    EntryKept ((e.moveTo st).recordIncarnation f) where
  missCount := (e.moveTo_missCount_le st).trans h.missCount
  splits := (e.moveTo_splits_le st).trans h.splits
  admission := by simp [Entry.recordIncarnation, hst]
  admissionRange := by simp [Entry.recordIncarnation, hst]
  incarnation := fun _ => rfl

/-- An entry that becomes JOINING with a count in range and an incarnation keeps its form (R50, R56). -/
theorem EntryKept.startJoining {e : Entry} (h : EntryKept e) {n : Nat} (hn : 1 ≤ n ∧ n ≤ 8) (i : Byte) :
    EntryKept { e.startJoining n with incarnation := some i } where
  missCount := (e.moveTo_missCount_le .joining).trans h.missCount
  splits := (e.moveTo_splits_le .joining).trans h.splits
  admission := by simp [Entry.startJoining]
  admissionRange := by simpa [Entry.startJoining] using hn
  incarnation := fun _ => rfl

/-- The admission rounds remaining of a JOINING entry, another count in range in their place (R54, R56). -/
theorem EntryKept.withAdmission {e : Entry} (h : EntryKept e) (hj : e.state = .joining) {n : Nat} (hn : 1 ≤ n ∧ n ≤ 8) :
    EntryKept { e with admission := some n } :=
  ⟨h.missCount, h.splits, by simp [hj], by simpa using hn, h.incarnation⟩

/-- An entry that a frame was heard from keeps its form (R6). -/
theorem EntryKept.hear {e : Entry} (h : EntryKept e) (f : FrameBody) : EntryKept (e.hear f) :=
  ⟨Nat.zero_le _, h.splits, h.admission, h.admissionRange, h.incarnation⟩

/-- The count of a JOINING entry lies in its range, read with a default too. -/
theorem EntryKept.admission_getD {e : Entry} (h : EntryKept e) : e.admission.getD 0 ≤ 8 := by
  cases ha : e.admission with
  | none => exact Nat.zero_le _
  | some n => exact (h.admissionRange n ha).2

/-- Observer adoption leaves an entry in its form (R8, R9). -/
theorem EntryKept.adopt {e : Entry} (h : EntryKept e) (kind : FrameKind) (f : FrameBody) {n : Nat} (hn : 1 ≤ n ∧ n ≤ 8) :
    EntryKept (e.adopt kind f n) := by
  unfold Entry.adopt
  dsimp only
  generalize adoptedState kind f e.state = st
  have moved (hst : st ≠ .joining) : EntryKept (((e.moveTo st).recordIncarnation f).report f) :=
    (h.moveTo_recorded hst f).report f
  split
  · rename_i hs
    by_cases hst : st = .joining
    · subst hst
      have hm : e.moveTo .joining = e := by
        rw [Entry.moveTo_of_ne (by decide), if_pos rfl]
        cases e; simp_all
      rw [hm]
      exact (h.recordIncarnation f).report f
    · exact moved hst
  · cases st with
    | joining => exact (h.startJoining hn f.incarnation).report f
    | recovering => exact (moved (by decide)).noSplits
    | absent => exact moved (by decide)
    | member => exact moved (by decide)
    | suspect => exact moved (by decide)

/-! ### What an operation keeps -/

/-- The invariants of the line, the table and the votes are kept from one state to another. -/
structure KeepsForm (s t : State) : Prop where
  line : LineConsistent s → LineConsistent t
  table : LineConsistent s → TableKept s → TableKept t
  votes : VotesConsistent s → VotesConsistent t

/-- And so is the agreement of the own entry, the Prompt Timer, the Reset Unit and the host accusation set with the line. -/
structure KeepsAll (s t : State) : Prop extends KeepsForm s t where
  part : PartConsistent s → PartConsistent t

theorem KeepsForm.refl (s : State) : KeepsForm s s := ⟨id, fun _ h => h, id⟩

theorem KeepsForm.trans {r s t : State} (h : KeepsForm r s) (k : KeepsForm s t) : KeepsForm r t :=
  ⟨fun hl => k.line (h.line hl), fun hl ht => k.table (h.line hl) (h.table hl ht), fun hv => k.votes (h.votes hv)⟩

theorem KeepsAll.refl (s : State) : KeepsAll s s := ⟨.refl s, id⟩

theorem KeepsAll.trans {r s t : State} (h : KeepsAll r s) (k : KeepsAll s t) : KeepsAll r t :=
  ⟨h.toKeepsForm.trans k.toKeepsForm, fun hp => k.part (h.part hp)⟩

/-- What a guarded operation keeps, where each branch keeps it. -/
theorem KeepsAll.ite {c : Prop} [Decidable c] {s t u : State} (ht : c → KeepsAll s t) (hu : ¬ c → KeepsAll s u) :
    KeepsAll s (if c then t else u) := by
  by_cases h : c
  · rw [if_pos h]; exact ht h
  · rw [if_neg h]; exact hu h

theorem KeepsForm.ite {c : Prop} [Decidable c] {s t u : State} (ht : c → KeepsForm s t) (hu : ¬ c → KeepsForm s u) :
    KeepsForm s (if c then t else u) := by
  by_cases h : c
  · rw [if_pos h]; exact ht h
  · rw [if_neg h]; exact hu h

/-- A fold of operations that leave the Line Unit alone keeps what each of them keeps. -/
theorem KeepsAll.foldl {s : State} {f : State → Addr → State} (hlu : ∀ t a, (f t a).lu = t.lu)
    (hf : ∀ t a, t.lu = s.lu → KeepsAll t (f t a)) (l : List Addr) : KeepsAll s (l.foldl f s) :=
  (foldl_keeps (fun t => t.lu = s.lu ∧ KeepsAll s t) f
    (fun t a h => ⟨(hlu t a).trans h.1, h.2.trans (hf t a h.1)⟩) l s ⟨rfl, .refl s⟩).2

/-! ### Invariants carried over unchanged parts -/

theorem State.online_of_lu {s t : State} (h : t.lu = s.lu) : t.online = s.online := by simp [State.online, h]

theorem State.online_iff (s : State) : s.online = true ↔ s.lu.state = .synced ∨ s.lu.state = .active := by
  simp [State.online]

/-- The Host Port's address, record and digest are those of before. -/
structure SameSetup (s t : State) : Prop where
  address : t.hp.address = s.hp.address
  config : t.hp.config = s.hp.config
  digest : t.hp.digest = s.hp.digest

theorem SameSetup.of_hp {s t : State} (h : t.hp = s.hp) : SameSetup s t := ⟨by rw [h], by rw [h], by rw [h]⟩

theorem SameSetup.post (e : Event) (s : State) : SameSetup s (s.post e) := ⟨by simp, by simp, by simp⟩

theorem SameSetup.trans {r s t : State} (h : SameSetup r s) (k : SameSetup s t) : SameSetup r t :=
  ⟨k.address.trans h.address, k.config.trans h.config, k.digest.trans h.digest⟩

theorem SameSetup.cfg {s t : State} (h : SameSetup s t) : t.cfg = s.cfg := by rw [State.cfg, State.cfg, h.config]

theorem SameSetup.resetLimit {s t : State} (h : SameSetup s t) : t.resetLimit = s.resetLimit := by
  rw [State.resetLimit, State.resetLimit, h.cfg]

theorem LineConsistent.of_lu {s t : State} (h : LineConsistent s) (hs : SameSetup s t) (hl : t.lu = s.lu) : LineConsistent t := by
  have ho := State.online_of_lu hl
  have hw : t.searching = s.searching := by simp [State.searching, hl]
  exact ⟨by rw [hs.config, hl]; exact h.configured, by rw [hs.digest, hs.config]; exact h.digest, by rw [hs.config]; exact h.record,
    by rw [ho, hl]; exact h.round, by rw [ho, hl]; exact h.roundTimer, by rw [hw, hl]; exact h.listenWindow,
    by rw [hl]; exact h.waiting, by rw [hl]; exact h.driving, by rw [ho, hl]; exact h.silent⟩

/-- While rounds pass the station is configured with a record that passed the values test (R143, R145). -/
theorem LineConsistent.cfg_inRange {s : State} (h : LineConsistent s) (hc : s.hp.config ≠ none) : recordInRange s.cfg = true := by
  obtain ⟨r, hr⟩ := Option.ne_none_iff_exists'.1 hc
  simpa [State.cfg, hr] using h.record r hr

theorem LineConsistent.configured_of_online {s : State} (h : LineConsistent s) (ho : s.online = true) : s.hp.config ≠ none := by
  intro hc
  have := h.configured.1 hc
  simp [State.online, this] at ho

theorem recordInRange_admitRounds {r : ConfigRecord} (h : recordInRange r = true) :
    1 ≤ r.admitRounds.toNat ∧ r.admitRounds.toNat ≤ 8 := by
  simp only [recordInRange, Bool.and_eq_true, decide_eq_true_eq] at h; omega

theorem recordInRange_resetLimit {r : ConfigRecord} (h : recordInRange r = true) :
    1 ≤ r.resetLimit.toNat ∧ r.resetLimit.toNat ≤ 7 := by
  simp only [recordInRange, Bool.and_eq_true, decide_eq_true_eq] at h; omega

theorem recordInRange_recoveryRounds {r : ConfigRecord} (h : recordInRange r = true) : 2 ≤ r.recoveryRounds.toNat := by
  simp only [recordInRange, Bool.and_eq_true, decide_eq_true_eq] at h; omega

/-- While rounds pass the configured admission rounds lie between 1 and 8 (R144). -/
theorem LineConsistent.admitRounds {s : State} (h : LineConsistent s) (ho : s.online = true) :
    1 ≤ s.admitRounds ∧ s.admitRounds ≤ 8 :=
  recordInRange_admitRounds (h.cfg_inRange (h.configured_of_online ho))

theorem TableKept.of_entries {s t : State} (h : TableKept s) (hs : ∀ c, t.hp.snapshot = some c → s.hp.snapshot = some c)
    (he : ∀ a, EntryKept (s.entry a) → EntryKept (t.entry a)) (ho : OwnEntryFixed s.own → OwnEntryFixed t.own) : TableKept t :=
  ⟨fun a => he a (h.entries a), ho h.own, fun c hc => h.copy c (hs c hc)⟩

/-- The voter set, V and Q stand, and the tally gains no accuser that is no voter. -/
structure VotersStand (s t : State) : Prop where
  voters : t.vu.voters = s.vu.voters
  voterCount : t.vu.voterCount = s.vu.voterCount
  quorum : t.vu.quorum = s.vu.quorum
  tally : ∀ j a : Addr, inSet a t.vu.tally[j] = true → inSet a s.vu.tally[j] = true ∨ inSet a s.vu.voters = true

theorem VotersStand.of_vu {s t : State} (h : t.vu = s.vu) : VotersStand s t :=
  ⟨by rw [h], by rw [h], by rw [h], fun j a hj => .inl (by simpa [h] using hj)⟩

theorem VotesConsistent.of_voters {s t : State} (h : VotesConsistent s) (hv : VotersStand s t)
    (ho : t.online = true → s.online = true) (hc : t.lu.condemnDrive = s.lu.condemnDrive) (hk : t.lu.clearDrive = s.lu.clearDrive)
    (ha : t.hp.address = s.hp.address) : VotesConsistent t where
  voterCount := by rw [hv.voterCount, hv.voters]; exact h.voterCount
  tally := fun j a hj => by
    rw [hv.voters]
    exact (hv.tally j a hj).elim (h.tally j a) id
  quorum := fun ht => by rw [hv.voterCount, hv.quorum]; exact h.quorum (ho ht)
  oneSide := by rw [hc, hk]; exact h.oneSide
  notOwn := by simp only [State.ownAddr, hc, hk, ha]; exact h.notOwn

/-- An operation that leaves the Line Unit, the setup and the voters alone keeps the line and the votes; it keeps the table where it keeps every
entry. -/
theorem KeepsForm.of_entries {s t : State} (hl : t.lu = s.lu) (hs : SameSetup s t)
    (hc : ∀ c, t.hp.snapshot = some c → s.hp.snapshot = some c) (hv : VotersStand s t)
    (he : LineConsistent s → ∀ a, EntryKept (s.entry a) → EntryKept (t.entry a))
    (ho : (∀ a, EntryKept (s.entry a)) → OwnEntryFixed s.own → OwnEntryFixed t.own) : KeepsForm s t where
  line := fun h => h.of_lu hs hl
  table := fun h k => k.of_entries hc (he h) (ho k.entries)
  votes := fun h => h.of_voters hv (by rw [State.online_of_lu hl]; exact id) (by rw [hl]) (by rw [hl]) hs.address

/-- An operation that leaves the Line Unit, the View Unit and the setup alone keeps the form of them all. -/
theorem KeepsForm.of_vu {s t : State} (hl : t.lu = s.lu) (hv : t.vu = s.vu) (hs : SameSetup s t)
    (hc : ∀ c, t.hp.snapshot = some c → s.hp.snapshot = some c) : KeepsForm s t :=
  .of_entries hl hs hc (.of_vu hv) (fun _ a h => by rwa [State.entry_of_vu hv]) (fun _ h => by rwa [State.own_of hv hs.address])

/-- The membership carried over to a state with the same line state, timer, reset state and setup, whose own entry is a member as before, or not
in the same state as before, and whose host accusation set holds no new address and no address that ceased to be a member. -/
theorem MembershipConsistent.of_same {s t : State} (h : MembershipConsistent s) (hl : t.lu.state = s.lu.state) (hs : SameSetup s t)
    (hp : t.pt = s.pt) (hr : t.ru.state = s.ru.state)
    (ho : t.own.state = s.own.state ∨ (s.own.state.isMember = true ∧ t.own.state.isMember = true))
    (ha : ∀ a, inSet a t.vu.hostAccused = true →
      inSet a s.vu.hostAccused = true ∧ ((s.entry a).state.isMember = true → (t.entry a).state.isMember = true)) :
    MembershipConsistent t := by
  have hm : t.own.state.isMember = s.own.state.isMember := by
    rcases ho with ho | ho
    · rw [ho]
    · rw [ho.1, ho.2]
  have hst (st : EntryState) (hst : st.isMember = false) : t.own.state = st → s.own.state = st := by
    rcases ho with ho | ho
    · rw [ho]; exact id
    · intro h'; rw [h', hst] at ho; exact absurd ho.2 (by decide)
  refine ⟨?_, by rw [hp, hm]; exact h.timer, ?_, ?_, ?_, by rw [hr, hs.config]; exact h.resetConfigured, ?_,
    by rw [hp]; exact h.remaining⟩
  · intro hd
    rw [hl] at hd
    rcases ho with ho | ho
    · rw [ho]; exact h.offline hd
    · rw [h.offline hd] at ho; exact absurd ho.1 (by decide)
  · rw [hr, hm]
    exact fun hj => h.resetIdle (hj.imp_left (hst _ rfl))
  · rw [hr]; exact fun hj => h.recovering (hst _ rfl hj)
  · rw [hr, hl]; exact fun hj => h.blocked (hst _ rfl hj)
  · intro a hat
    obtain ⟨h1, h2⟩ := ha a hat
    obtain ⟨h3, h4, h5⟩ := h.accused a h1
    exact ⟨by rw [State.ownAddr, hs.address]; exact h3, h2 h4, by rw [hm]; exact h5⟩

theorem ResetConsistent.of_ru {s t : State} (h : ResetConsistent s) (hs : SameSetup s t) (ho : t.online = s.online)
    (hr : t.ru = s.ru) : ResetConsistent t :=
  ⟨by rw [hr]; exact h.idle, by rw [hr, hs.resetLimit]; exact h.attempt, by rw [hr, hs.resetLimit]; exact h.held,
    by rw [hr]; exact h.pulse, by rw [hr]; exact h.recovery, by rw [hr]; exact h.release, by rw [hr, ho]; exact h.releaseOnline⟩

/-- An operation that keeps the form and leaves the line state, the timer and the Reset Unit alone keeps all, where the own entry is a member as
before and the host accusation set loses every address that ceases to be one. -/
theorem KeepsForm.keepsAll {s t : State} (hf : KeepsForm s t) (hl : t.lu.state = s.lu.state) (hs : SameSetup s t)
    (hp : t.pt = s.pt) (hr : t.ru = s.ru)
    (ho : t.own.state = s.own.state ∨ (s.own.state.isMember = true ∧ t.own.state.isMember = true))
    (ha : ∀ a, inSet a t.vu.hostAccused = true →
      inSet a s.vu.hostAccused = true ∧ ((s.entry a).state.isMember = true → (t.entry a).state.isMember = true)) :
    KeepsAll s t :=
  ⟨hf, fun h => ⟨hf.line h.line, h.membership.of_same hl hs hp (by rw [hr]) ho ha,
    h.reset.of_ru hs (by simp [State.online, hl]) hr⟩⟩

/-- An operation on the Host Port's transaction, queue or buffer, or on the service word and the levels, keeps all. -/
theorem KeepsAll.of_blocks {s t : State} (hl : t.lu = s.lu) (hv : t.vu = s.vu) (hs : SameSetup s t)
    (hc : ∀ c, t.hp.snapshot = some c → s.hp.snapshot = some c) (hp : t.pt = s.pt) (hr : t.ru = s.ru) : KeepsAll s t :=
  (KeepsForm.of_vu hl hv hs hc).keepsAll (by rw [hl]) hs hp hr (.inl (by rw [State.own_of hv hs.address]))
    (fun a ha => ⟨by rwa [hv] at ha, by rw [State.entry_of_vu hv]; exact id⟩)

theorem KeepsAll.post (e : Event) (s : State) : KeepsAll s (s.post e) :=
  .of_blocks (by simp) (by simp) (.post e s) (by simp) (by simp) (by simp)

/-! ### Edits of one entry -/

/-- An entry that may stand in the table in place of another. -/
structure MayReplace (s : State) (a : Addr) (y : Entry) : Prop where
  kept : LineConsistent s → EntryKept (s.entry a) → EntryKept y
  own : a = s.hp.address → EntryKept (s.entry a) → OwnEntryFixed (s.entry a) → OwnEntryFixed y

/-- The entry of another station may be replaced by any that has its form. -/
theorem MayReplace.peer {s : State} {a : Addr} {y : Entry} (ha : a ≠ s.hp.address)
    (h : LineConsistent s → EntryKept (s.entry a) → EntryKept y) : MayReplace s a y := ⟨h, fun h' => absurd h' ha⟩

theorem KeepsForm.set {s : State} {a : Addr} {y : Entry} (h : MayReplace s a y) (x : AddrSet) :
    KeepsForm s { s with vu := { s.vu with table := (s.setEntry a y).vu.table, hostAccused := x } } := by
  have he (b : Addr) : State.entry { s with vu := { s.vu with table := (s.setEntry a y).vu.table, hostAccused := x } } b =
      if b = a then y else s.entry b := State.entry_setEntry a b y s
  refine .of_entries rfl ⟨rfl, rfl, rfl⟩ (fun c h => h) ⟨rfl, rfl, rfl, fun j a h => .inl h⟩ ?_ ?_
  · intro hl b hb
    rw [he]
    split
    · next hab => subst hab; exact h.kept hl hb
    · exact hb
  · intro hk ho
    rw [State.own, he]
    split
    · next hab =>
      obtain rfl : s.hp.address = a := hab
      exact h.own rfl (hk _) ho
    · exact ho

theorem KeepsForm.modifyEntry {s : State} {a : Addr} {f : Entry → Entry} (h : MayReplace s a (f (s.entry a))) :
    KeepsForm s (s.modifyEntry a f) := KeepsForm.set h s.vu.hostAccused

theorem KeepsForm.moveEntry {s : State} {a : Addr} {f : Entry → Entry} (h : MayReplace s a (f (s.entry a))) :
    KeepsForm s (s.moveEntry a f) := by
  rw [State.moveEntry_eq]; exact KeepsForm.set h _

theorem State.own_modifyEntry_peer {s : State} {a : Addr} (ha : a ≠ s.hp.address) (f : Entry → Entry) :
    (s.modifyEntry a f).own = s.own := by
  simp [State.own, State.ownAddr, Ne.symm ha]

theorem State.own_moveEntry_peer {s : State} {a : Addr} (ha : a ≠ s.hp.address) (f : Entry → Entry) :
    (s.moveEntry a f).own = s.own := by
  simp [State.own, State.ownAddr, Ne.symm ha]

/-- An edit of another station's entry that leaves a member a member keeps all. -/
theorem KeepsAll.modifyPeer {s : State} {a : Addr} {f : Entry → Entry} (ha : a ≠ s.hp.address)
    (h : LineConsistent s → EntryKept (s.entry a) → EntryKept (f (s.entry a)))
    (hm : (s.entry a).state.isMember = true → (f (s.entry a)).state.isMember = true) : KeepsAll s (s.modifyEntry a f) := by
  refine (KeepsForm.modifyEntry (.peer ha h)).keepsAll rfl (.of_hp rfl) rfl rfl (.inl (by rw [State.own_modifyEntry_peer ha])) ?_
  intro b hb
  refine ⟨hb, ?_⟩
  rw [State.entry_modifyEntry]
  split
  · next hab => subst hab; exact hm
  · exact id

/-- An edit of another station's entry that drops its accusation where it ceases to be a member keeps all (R44). -/
theorem KeepsAll.movePeer {s : State} {a : Addr} {f : Entry → Entry} (ha : a ≠ s.hp.address)
    (h : LineConsistent s → EntryKept (s.entry a) → EntryKept (f (s.entry a))) : KeepsAll s (s.moveEntry a f) := by
  refine (KeepsForm.moveEntry (.peer ha h)).keepsAll (by simp) (.of_hp (by simp)) (by simp) (by simp)
    (.inl (by rw [State.own_moveEntry_peer ha])) ?_
  intro b hb
  rw [State.entry_moveEntry]
  rw [State.moveEntry_eq] at hb
  by_cases hm : (f (s.entry a)).state.isMember = true
  · rw [if_pos hm] at hb
    refine ⟨hb, ?_⟩
    split
    · exact fun _ => hm
    · exact id
  · rw [if_neg hm, inSet_eraseAddr, Bool.and_eq_true, Bool.not_eq_true', beq_eq_false_iff_ne] at hb
    exact ⟨hb.1, by rw [if_neg hb.2]; exact id⟩

/-- An edit of any entry that leaves its state, or leaves a member a member, keeps all. -/
theorem KeepsAll.modifyEntry {s : State} {a : Addr} {f : Entry → Entry} (h : MayReplace s a (f (s.entry a)))
    (hst : (f (s.entry a)).state = (s.entry a).state ∨
      ((s.entry a).state.isMember = true ∧ (f (s.entry a)).state.isMember = true)) : KeepsAll s (s.modifyEntry a f) := by
  refine (KeepsForm.modifyEntry h).keepsAll rfl (.of_hp rfl) rfl rfl ?_ ?_
  · rw [State.own, State.entry_modifyEntry, State.own]
    split
    · next hab =>
      obtain rfl : s.ownAddr = a := hab
      exact hst
    · exact .inl rfl
  · intro b hb
    refine ⟨hb, ?_⟩
    rw [State.entry_modifyEntry]
    split
    · next hab =>
      subst hab
      rcases hst with hst | hst
      · rw [hst]; exact id
      · exact fun _ => hst.2
    · exact id

/-- A MEMBER that becomes SUSPECT, the own entry too, keeps all (R27, R28, R29, R40). -/
theorem KeepsAll.suspect (j : Addr) (c : SuspectCause) (s : State) : KeepsAll s (s.suspect j c) := by
  refine .ite (fun hm => KeepsAll.trans (.modifyEntry ⟨fun _ hk => hk.moveTo (by decide) fun _ => hk.incarnation ?_, fun _ _ ho => ?_⟩
    (.inr ⟨by rw [hm]; rfl, by rw [Entry.moveTo_state]; rfl⟩)) (.post _ _)) (fun _ => .refl s)
  · rw [hm]; decide
  · rw [Entry.moveTo_of_ne (by decide)]
    exact ⟨ho.incarnation, ho.missCount, ho.viewAgrees, ho.mismatchSeen, ho.strangerReported⟩

theorem KeepsAll.testEvidence (j : Addr) (s : State) : KeepsAll s (s.testEvidence j) :=
  .ite (fun _ => .suspect j _ s) (fun _ => .refl s)

/-- Counting a voter's accusations keeps all (R30). -/
theorem KeepsAll.countAccusations (k : Addr) (x : AddrSet) (s : State) : KeepsAll s (s.countAccusations k x) := by
  obtain ⟨tally, ht, heq⟩ := s.countAccusations_eq k x
  rw [heq]
  refine KeepsForm.keepsAll (.of_entries rfl (.of_hp rfl) (fun c h => h) ⟨rfl, rfl, rfl, ?_⟩ (fun _ a h => h) (fun _ h => h))
    rfl (.of_hp rfl) rfl rfl (.inl rfl) (fun a h => ⟨h, id⟩)
  intro j a hj
  simp only [ht, Bool.or_eq_true, Bool.and_eq_true] at hj
  exact hj.imp_right (fun h => h.1.2)

/-! ### Frames and slots -/

/-- A change of the marks and of the own accusation set keeps all. -/
theorem KeepsAll.marks (s : State) (own : AddrSet) (leave foreign : Bool) : KeepsAll s { s with vu := { s.vu with
    ownAccusations := own, leavePending := leave, foreignMark := foreign } } :=
  KeepsForm.keepsAll (.of_entries rfl (.of_hp rfl) (fun _ h => h) ⟨rfl, rfl, rfl, fun _ _ h => .inl h⟩ (fun _ _ h => h) (fun _ h => h))
    rfl (.of_hp rfl) rfl rfl (.inl rfl) (fun _ h => ⟨h, id⟩)

theorem KeepsAll.postChanges (k : Addr) (old : Entry) (f : FrameBody) (s : State) : KeepsAll s (s.postChanges k old f) := by
  have h1 : KeepsAll s (if old.flags ≠ f.flags then s.post (.condition k f.flags) else s) :=
    .ite (fun _ => .post _ s) (fun _ => .refl s)
  exact .ite (fun _ => h1.trans (.post _ _)) (fun _ => h1)

theorem KeepsAll.compareView {k : Addr} {s : State} (hk : k ≠ s.hp.address) (f : FrameBody) (posts : Bool) :
    KeepsAll s (s.compareView k f posts) := by
  have h1 : KeepsAll s (s.modifyEntry k (fun e => { e with viewAgrees := f.view == s.vu.voters })) :=
    .modifyPeer hk (fun _ h => ⟨h.missCount, h.splits, h.admission, h.admissionRange, h.incarnation⟩) id
  exact .ite (fun _ => .ite (fun _ => h1.trans (.post _ _)) (fun _ => h1)) (fun _ => .refl s)

theorem KeepsAll.takeAccusations (k : Addr) (f : FrameBody) (s : State) : KeepsAll s (s.takeAccusations k f) := by
  refine KeepsAll.trans (.ite (fun _ => ?_) (fun _ => .refl s)) (.countAccusations k f.accuses _)
  exact .foldl (fun t a => by split <;> simp) (fun t a _ => .ite (fun _ => .suspect a _ t) (fun _ => .refl t)) _

theorem KeepsAll.adoptFrame {k : Addr} {s : State} (hk : k ≠ s.hp.address) (ho : s.online = true) (kind : FrameKind) (f : FrameBody) :
    KeepsAll s (s.adoptFrame kind k f) := by
  have h1 : KeepsAll s (s.moveEntry k (Entry.adopt kind f s.admitRounds)) :=
    .movePeer hk (fun hl he => he.adopt kind f (hl.admitRounds ho))
  refine .ite (fun _ => h1.trans (KeepsAll.trans ?_ (.countAccusations _ _ _))) (fun _ => h1)
  exact .compareView (by simpa using hk) f false

theorem KeepsAll.restartedEntry {k : Addr} {s : State} (hk : k ≠ s.hp.address) (f : FrameBody) : KeepsAll s (s.restartedEntry k f) :=
  KeepsAll.trans (.movePeer hk (fun _ h => h.moveTo_recorded (by decide) f)) (.post _ _)

theorem KeepsAll.heldEntry {k : Addr} {s : State} (hk : k ≠ s.hp.address) (f : FrameBody) : KeepsAll s (s.heldEntry k f) :=
  KeepsAll.trans (.movePeer hk (fun _ h => (h.moveTo_recorded (by decide) f).report f)) (.post _ _)

theorem KeepsAll.admitPeer {k : Addr} {s : State} (hk : k ≠ s.hp.address) (f : FrameBody) : KeepsAll s (s.admitPeer k f) := by
  refine KeepsAll.trans (KeepsAll.trans (.modifyPeer hk ?_ ?_) (.post _ _)) (.testEvidence k _)
  · exact fun _ h => (h.moveTo_recorded (by decide) f).report f
  · exact fun _ => by simp [Entry.report, Entry.recordIncarnation, EntryState.isMember]

theorem KeepsAll.announceFromAbsent {k : Addr} {s : State} (hk : k ≠ s.hp.address) (f : FrameBody) :
    KeepsAll s (s.announceFromAbsent k f) := by
  have edit (g : Entry → Entry) (hg : ∀ e, (g e).missCount = e.missCount ∧ (g e).splits = e.splits ∧ (g e).admission = e.admission ∧
      (g e).state = e.state ∧ (g e).incarnation.isSome = true) : KeepsAll s (s.modifyEntry k g) := by
    obtain ⟨h1, h2, h3, h4, h5⟩ := hg (s.entry k)
    refine .modifyPeer hk (fun _ h => ?_) (by rw [h4]; exact id)
    exact ⟨by rw [h1]; exact h.missCount, by rw [h2]; exact h.splits, by rw [h3, h4]; exact h.admission,
      by rw [h3]; exact h.admissionRange, fun _ => h5⟩
  have stranger := edit (fun e => { e.recordIncarnation f with strangerReported := true }) (fun _ => ⟨rfl, rfl, rfl, rfl, rfl⟩)
  refine .ite (fun _ => ?_) (fun _ => .ite (fun _ => stranger) (fun _ => stranger.trans (.post _ _)))
  exact edit (fun e => { e.recordIncarnation f with hostState := .held, attempt := f.attempt }) (fun _ => ⟨rfl, rfl, rfl, rfl, rfl⟩)

theorem KeepsAll.announceFromJoining {k : Addr} {s : State} (hk : k ≠ s.hp.address) (f : FrameBody) :
    KeepsAll s (s.announceFromJoining k f) := by
  refine .ite (fun _ => .restartedEntry hk f) (fun _ => ?_)
  cases HostState.ofCode f.hostCode with
  | held => exact .heldEntry hk f
  | resetting => exact .movePeer hk (fun _ h => (h.moveTo_recorded (by decide) f).report f)
  | dormant => exact .admitPeer hk f
  | running => exact .admitPeer hk f
  | warned => exact .admitPeer hk f
  | lapsed => exact .admitPeer hk f
  | fault => exact .admitPeer hk f

theorem KeepsAll.announceFromMember {k : Addr} {s : State} (hk : k ≠ s.hp.address) (f : FrameBody) :
    KeepsAll s (s.announceFromMember k f) := by
  refine .ite (fun _ => .restartedEntry hk f) (fun _ => .ite (fun _ => .heldEntry hk f) (fun _ => ?_))
  have h1 : KeepsAll s (s.modifyEntry k (fun e => (e.recordIncarnation f).report f)) :=
    .modifyPeer hk (fun _ h => (h.recordIncarnation f).report f) id
  have h2 := (h1.trans (.postChanges k (s.entry k) f _)).trans (.testEvidence k _)
  exact (h2.trans (.compareView (by simpa using hk) f true)).trans (.takeAccusations k f _)

theorem KeepsAll.applyAnnounce {k : Addr} {s : State} (hk : k ≠ s.hp.address) (f : FrameBody) : KeepsAll s (s.applyAnnounce k f) := by
  unfold State.applyAnnounce
  cases (s.entry k).state with
  | absent => exact .announceFromAbsent hk f
  | joining => exact .announceFromJoining hk f
  | member => exact .announceFromMember hk f
  | suspect => exact .announceFromMember hk f
  | recovering => exact .announceFromMember hk f

theorem KeepsAll.beginAdmission {k : Addr} {s : State} (hk : k ≠ s.hp.address) (ho : s.online = true) (f : FrameBody) :
    KeepsAll s (s.beginAdmission k f) :=
  .movePeer hk (fun hl h => (h.startJoining (hl.admitRounds ho) f.incarnation).report f)

theorem KeepsAll.restartPeer {k : Addr} {s : State} (hk : k ≠ s.hp.address) (ho : s.online = true) (f : FrameBody) :
    KeepsAll s (s.restartPeer k f) :=
  KeepsAll.trans (KeepsAll.trans (.movePeer hk (fun hl h => ((h.startJoining (hl.admitRounds ho) f.incarnation).report f).noSplits))
    (.postChanges k _ f _)) (.post _ _)

theorem KeepsAll.countJoin {k : Addr} {s : State} (hk : k ≠ s.hp.address) (hj : (s.entry k).state = .joining) (f : FrameBody) :
    KeepsAll s (s.countJoin k f) := by
  refine .ite (fun _ => .admitPeer hk f) (fun hn => KeepsAll.trans (.modifyPeer hk (fun _ h => ?_) id) (.postChanges k _ f _))
  have := h.admission_getD
  exact ((h.recordIncarnation f).report f).withAdmission hj (by omega)

theorem KeepsAll.applyJoin {k : Addr} {s : State} (hk : k ≠ s.hp.address) (ho : s.online = true) (f : FrameBody) :
    KeepsAll s (s.applyJoin k f) := by
  have begun := KeepsAll.beginAdmission hk ho f
  unfold State.applyJoin
  cases hst : (s.entry k).state with
  | absent => exact begun
  | recovering => exact begun.trans (.postChanges k _ f _)
  | joining => exact .ite (fun _ => begun.trans (.postChanges k _ f _)) (fun _ => .countJoin hk hst f)
  | member => exact .restartPeer hk ho f
  | suspect => exact .restartPeer hk ho f

theorem KeepsAll.applyLeave {k : Addr} {s : State} (hk : k ≠ s.hp.address) (f : FrameBody) : KeepsAll s (s.applyLeave k f) := by
  have h1 : KeepsAll s (s.moveEntry k (fun e => ((e.moveTo .absent).recordIncarnation f).report f)) :=
    .movePeer hk (fun _ h => (h.moveTo_recorded (by decide) f).report f)
  exact .ite (fun _ => h1) (fun _ => h1.trans (.post _ _))

theorem KeepsAll.applyFrame {k : Addr} {s : State} (hk : k ≠ s.hp.address) (ho : s.online = true) (kind : FrameKind) (f : FrameBody) :
    KeepsAll s (s.applyFrame kind k f) := by
  have heard : KeepsAll s (s.modifyEntry k (Entry.hear f)) := .modifyPeer hk (fun _ h => h.hear f) id
  have hk' : k ≠ (s.modifyEntry k (Entry.hear f)).hp.address := hk
  refine heard.trans (.ite (fun _ => .adoptFrame hk' ho kind f) (fun _ => ?_))
  cases kind with
  | announce => exact .applyAnnounce hk' f
  | join => exact .applyJoin hk' ho f
  | leave => exact .applyLeave hk' f

theorem KeepsAll.applyForeign {k : Addr} {s : State} (hk : k ≠ s.hp.address) (d : Word16) : KeepsAll s (s.applyForeign k d) := by
  have h1 : KeepsAll s (s.modifyEntry k (fun e => { e with mismatchSeen := true })) :=
    .modifyPeer hk (fun _ h => ⟨h.missCount, h.splits, h.admission, h.admissionRange, h.incarnation⟩) id
  have h2 : KeepsAll s (if (s.entry k).mismatchSeen then s
      else (s.modifyEntry k (fun e => { e with mismatchSeen := true })).post (.profileMismatch k d)) :=
    .ite (fun _ => .refl s) (fun _ => h1.trans (.post _ _))
  exact .ite (fun _ => h2.trans (.marks _ _ _ _)) (fun _ => h2)

theorem KeepsAll.applyOutOfStep {k : Addr} {s : State} (hk : k ≠ s.hp.address) : KeepsAll s (s.applyOutOfStep k) :=
  .modifyPeer hk (fun _ h => ⟨h.missCount, h.splits, h.admission, h.admissionRange, h.incarnation⟩) id

/-! ### The Line Unit within a round -/

/-- Another Line Unit of the same round: the line state, the timers and the waiting for release stand, the round is still in progress, and what is
driven in ACTIVE alone is driven there. -/
structure SameRound (l m : LineUnit) : Prop where
  state : m.state = l.state
  roundTimer : m.roundTimer = l.roundTimer
  listenWindow : m.listenWindow = l.listenWindow
  waitRelease : m.waitRelease = l.waitRelease
  pos : m.pos ≠ .outside
  driving : m.driving = .frame ∨ m.driving = .verdict → l.state = .active

theorem LineConsistent.inRound {s t : State} (h : LineConsistent s) (ho : s.online = true) (hs : SameSetup s t)
    (hr : SameRound s.lu t.lu) : LineConsistent t := by
  have hon : t.online = s.online := by simp [State.online, hr.state]
  have hw : t.searching = s.searching := by simp [State.searching, hr.state, hr.waitRelease]
  refine ⟨by rw [hs.config, hr.state]; exact h.configured, by rw [hs.digest, hs.config]; exact h.digest,
    by rw [hs.config]; exact h.record, ?_, by rw [hr.roundTimer, hon]; exact h.roundTimer,
    by rw [hr.listenWindow, hw]; exact h.listenWindow, by rw [hr.waitRelease, hr.state]; exact h.waiting,
    by rw [hr.state]; exact hr.driving, ?_⟩
  · exact ⟨fun hp => absurd hp hr.pos, fun hf => by rw [hon, ho] at hf; exact absurd hf (by decide)⟩
  · exact fun hf => by rw [hon, ho] at hf; exact absurd hf (by decide)

/-- A Line Unit of the same round that drives nothing. -/
theorem SameRound.quiet {l m : LineUnit} (h1 : m.state = l.state) (h2 : m.roundTimer = l.roundTimer)
    (h3 : m.listenWindow = l.listenWindow) (h4 : m.waitRelease = l.waitRelease) (h5 : m.pos ≠ .outside)
    (h6 : m.driving = .nothing) : SameRound l m :=
  ⟨h1, h2, h3, h4, h5, by rw [h6]; rintro (h | h) <;> cases h⟩

/-- A change of the Line Unit within a round that leaves the drive set alone keeps all. -/
theorem KeepsAll.inRound {s : State} {l : LineUnit} (ho : s.online = true) (hr : SameRound s.lu l)
    (hc : l.condemnDrive = s.lu.condemnDrive) (hk : l.clearDrive = s.lu.clearDrive) : KeepsAll s { s with lu := l } := by
  refine KeepsForm.keepsAll ⟨fun h => h.inRound ho (.of_hp rfl) hr, fun _ h => h.of_entries (fun _ h => h) (fun _ h => h) id, fun h => ?_⟩
    hr.state (.of_hp rfl) rfl rfl (.inl rfl) (fun _ h => ⟨h, id⟩)
  exact h.of_voters (.of_vu rfl) (fun _ => ho) hc hk rfl

theorem KeepsAll.takeFrame {k : Addr} {s : State} (hk : k ≠ s.hp.address) (ho : s.online = true) (hp : s.lu.pos ≠ .outside)
    (hd : s.lu.driving = .nothing) (kind : FrameKind) (f : FrameBody) : KeepsAll s (s.takeFrame kind k f) := by
  have ha : ∃ n o, s.lu.adoptRound f.round = { s.lu with roundNumber := n, adoptOpen := o } := by
    unfold LineUnit.adoptRound; split
    · exact ⟨_, _, rfl⟩
    · exact ⟨_, _, rfl⟩
  obtain ⟨n, o, ha⟩ := ha
  unfold State.takeFrame
  refine .ite (fun _ => ?_) (fun _ => ?_)
  · have h1 : KeepsAll s { s with lu := s.lu.keepOutcome k .foreign } := .inRound ho (.quiet rfl rfl rfl rfl hp hd) rfl rfl
    exact h1.trans (.applyForeign (by exact hk) f.digest)
  · dsimp only
    rw [ha]
    refine .ite (fun _ => ?_) (fun _ => ?_)
    · refine KeepsAll.trans (.inRound ho ?_ ?_ ?_) (.applyOutOfStep (by exact hk))
      exacts [.quiet rfl rfl rfl rfl hp hd, rfl, rfl]
    · refine KeepsAll.trans (.inRound ho ?_ ?_ ?_) (.applyFrame (by exact hk) (by exact ho) kind f)
      exacts [.quiet rfl rfl rfl rfl hp hd, rfl, rfl]

theorem KeepsAll.closeSlot (k : Addr) (r : Reception) (s : State) : KeepsAll s (s.closeSlot k r) := by
  refine .ite (fun hready => ?_) (fun _ => .refl s)
  simp only [State.slotReady, Bool.and_eq_true, bne_iff_ne] at hready
  obtain ⟨⟨ho, hk⟩, -⟩ := hready
  cases r with
  | silent => exact .inRound ho (.quiet rfl rfl rfl rfl RoundPos.noConfusion rfl) rfl rfl
  | garbled => exact .inRound ho (.quiet rfl rfl rfl rfl RoundPos.noConfusion rfl) rfl rfl
  | frame kind body =>
    have closed : KeepsAll s { s with lu := { s.lu with pos := .slots (k.val + 1), driving := .nothing } } :=
      .inRound ho (.quiet rfl rfl rfl rfl RoundPos.noConfusion rfl) rfl rfl
    exact closed.trans (.takeFrame (by exact hk) (by exact ho) RoundPos.noConfusion rfl kind body)

/-! ### The own slot and the verdict field -/

theorem KeepsAll.recordOwnReport (s : State) : KeepsAll s s.recordOwnReport :=
  .modifyEntry
    ⟨fun _ h => ⟨h.missCount, h.splits, h.admission, h.admissionRange, h.incarnation⟩,
     fun _ _ h => ⟨h.incarnation, h.missCount, h.viewAgrees, h.mismatchSeen, h.strangerReported⟩⟩ (.inl rfl)

theorem KeepsAll.composeOwn (s : State) : KeepsAll s s.composeOwn := by
  have h1 := (KeepsAll.recordOwnReport s).trans
    (.marks _ s.recordOwnReport.accusationSet s.recordOwnReport.vu.leavePending s.recordOwnReport.vu.foreignMark)
  exact (h1.trans (.ite (fun _ => .suspect _ .self _) (fun _ => .refl _))).trans (.countAccusations _ _ _)

theorem State.online_of_ownSlotReady {s : State} (h : s.ownSlotReady = true) : s.online = true := by
  simp only [State.ownSlotReady, Bool.and_eq_true] at h; exact h.1

theorem KeepsAll.startOwnSlot (s : State) : KeepsAll s s.startOwnSlot := by
  refine .ite (fun hready => (KeepsAll.composeOwn s).trans ?_) (fun _ => .refl s)
  have ho : s.composeOwn.online = true := by rw [State.online_of_lu s.composeOwn_lu]; exact State.online_of_ownSlotReady hready
  refine .inRound ho ⟨rfl, rfl, rfl, rfl, RoundPos.noConfusion, ?_⟩ rfl rfl
  dsimp only
  split
  · next ha => exact fun _ => ha
  · rintro (h | h) <;> cases h

/-- The own last heard round is a free item of the own entry (R2). -/
theorem KeepsAll.ownLastHeard (s : State) (r : Word16) : KeepsAll s (s.modifyEntry s.ownAddr (fun e => { e with lastHeard := some r })) :=
  .modifyEntry
    ⟨fun _ h => ⟨h.missCount, h.splits, h.admission, h.admissionRange, h.incarnation⟩,
     fun _ _ h => ⟨h.incarnation, h.missCount, h.viewAgrees, h.mismatchSeen, h.strangerReported⟩⟩ (.inl rfl)

theorem KeepsAll.reportWhole {s : State} (ho : s.online = true) (hp : s.lu.pos ≠ .outside) (hd : s.lu.driving = .nothing) :
    KeepsAll s s.reportWhole := by
  have whole : KeepsAll s { s with lu := { s.lu with ownWhole := true } } := .inRound ho (.quiet rfl rfl rfl rfl hp hd) rfl rfl
  unfold State.reportWhole
  cases s.lu.ownFrame with
  | none => exact .refl s
  | some fr =>
    have heard := whole.trans (.ownLastHeard _ fr.body.round)
    exact .ite (fun _ => heard.trans (.marks _ _ _ _)) (fun _ => heard)

theorem KeepsAll.endOwnSlot (clean : Bool) (s : State) : KeepsAll s (s.endOwnSlot clean) := by
  refine .ite (fun hready => ?_) (fun _ => .refl s)
  obtain ⟨ho, -⟩ := hready
  have quiet (c : Bool) : KeepsAll s { s with lu := { s.lu with
      pos := .slots (s.ownAddr.val + 1), driving := .nothing, collisionPending := c } } :=
    .inRound ho (.quiet rfl rfl rfl rfl RoundPos.noConfusion rfl) rfl rfl
  refine .ite (fun _ => .ite (fun _ => ?_) (fun _ => quiet true)) (fun _ => quiet s.lu.collisionPending)
  exact (quiet s.lu.collisionPending).trans (.reportWhole (by exact ho) RoundPos.noConfusion rfl)

theorem State.drives_active {s : State} (h : s.drives = true) : s.lu.state = .active := by
  simp only [State.drives, Bool.and_eq_true, beq_iff_eq] at h; exact h.1.2

theorem State.inSet_condemnSet (s : State) (j : Addr) : inSet j s.condemnSet = true ↔
    s.drives = true ∧ j ≠ s.ownAddr ∧ (s.entry j).state = .suspect ∧ s.vu.quorum ≤ s.accusers j := by
  unfold State.condemnSet
  split
  · next h => simp [inSet_setWhere, h, and_assoc]
  · next h => exact iff_of_false (Bool.eq_false_iff.1 (inSet_zero j)) (fun hd => h hd.1)

theorem State.inSet_clearSet (s : State) (j : Addr) : inSet j s.clearSet = true ↔
    s.drives = true ∧ j ≠ s.ownAddr ∧ (s.entry j).state = .suspect ∧ s.accusers j < s.vu.quorum := by
  unfold State.clearSet
  split
  · next h => simp [inSet_setWhere, h, and_assoc]
  · next h => exact iff_of_false (Bool.eq_false_iff.1 (inSet_zero j)) (fun hd => h hd.1)

/-- The drive set of a station that does not drive is empty (R33). -/
theorem State.driveSets_of_not_drives {s : State} (h : s.drives = false) : s.condemnSet = 0 ∧ s.clearSet = 0 := by
  simp [State.condemnSet, State.clearSet, h]

theorem KeepsAll.startField (s : State) : KeepsAll s s.startField := by
  refine .ite (fun hready => ?_) (fun _ => .refl s)
  have ho : s.online = true := by
    simp only [State.fieldReady, Bool.and_eq_true] at hready; exact hready.1
  have hround : SameRound s.lu { s.lu with
      pos := .verdict, condemnDrive := s.condemnSet, clearDrive := s.clearSet
      driving := if s.condemnSet = 0 ∧ s.clearSet = 0 then .nothing else .verdict } := by
    refine ⟨rfl, rfl, rfl, rfl, RoundPos.noConfusion, ?_⟩
    dsimp only
    split
    · rintro (h | h) <;> cases h
    · next hne =>
      intro _
      by_contra hna
      exact hne (State.driveSets_of_not_drives (Bool.eq_false_iff.2 fun hd => hna (State.drives_active hd)))
  refine KeepsForm.keepsAll ⟨fun h => h.inRound ho (.of_hp rfl) hround, fun _ h => h.of_entries (fun _ h => h) (fun _ h => h) id, fun h => ?_⟩
    rfl (.of_hp rfl) rfl rfl (.inl rfl) (fun _ h => ⟨h, id⟩)
  refine ⟨h.voterCount, h.tally, h.quorum, ?_, ?_⟩
  · rintro j ⟨hc, hk⟩
    have h1 := ((State.inSet_condemnSet s j).1 hc).2.2.2
    have h2 := ((State.inSet_clearSet s j).1 hk).2.2.2
    omega
  · have hnc : ¬ inSet s.ownAddr s.condemnSet = true := fun h => ((State.inSet_condemnSet s _).1 h).2.1 rfl
    have hnk : ¬ inSet s.ownAddr s.clearSet = true := fun h => ((State.inSet_clearSet s _).1 h).2.1 rfl
    exact ⟨Bool.eq_false_iff.2 hnc, Bool.eq_false_iff.2 hnk⟩

/-! ### The Prompt Timer and the Reset Unit -/

theorem MembershipConsistent.not_accused {s : State} (h : MembershipConsistent s) (hm : s.own.state.isMember = false) (a : Addr) :
    inSet a s.vu.hostAccused = false := by
  refine Bool.eq_false_iff.2 fun ha => ?_
  have := (h.accused a ha).2.2
  rw [hm] at this
  exact absurd this (by decide)

/-- The agreement at a station whose own entry is no member: no timer runs and nobody is accused. -/
theorem MembershipConsistent.of_nonmember {t : State} (hm : t.own.state.isMember = false) (hd : t.pt.state = .disarmed)
    (hr : t.pt.remaining = 0) (ha : ∀ a, inSet a t.vu.hostAccused = false)
    (offline : t.lu.state = .detached ∨ t.lu.state = .blocked → t.own.state = .absent)
    (joining : t.own.state = .joining → t.ru.state = .idle)
    (recovering : t.own.state = .recovering → t.ru.state = .pulsing ∨ t.ru.state = .waiting)
    (blocked : t.own.state = .absent → t.ru.state = .pulsing ∨ t.ru.state = .waiting → t.lu.state = .blocked)
    (configured : t.ru.state ≠ .idle → t.hp.config ≠ none) : MembershipConsistent t where
  offline := offline
  timer := by simp [hd, hm]
  resetIdle := by rw [hm]; rintro (h | h); exacts [joining h, absurd h (by decide)]
  recovering := recovering
  blocked := blocked
  resetConfigured := configured
  accused := fun a h => by rw [ha a] at h; exact absurd h (by decide)
  remaining := fun _ => hr

/-- A change of the Prompt Timer alone that arms and disarms nothing keeps all. -/
theorem KeepsAll.setTimer {s : State} {p : PromptTimer} (h1 : p.state ≠ .disarmed) (h2 : s.pt.state ≠ .disarmed)
    (h3 : p.state = .lapsed → p.remaining = 0) : KeepsAll s { s with pt := p } where
  toKeepsForm := .of_vu rfl rfl (.of_hp rfl) (fun _ h => h)
  part := fun h => by
    refine ⟨h.line.of_lu (.of_hp rfl) rfl, ?_, h.reset.of_ru (.of_hp rfl) rfl rfl⟩
    have hm := h.membership
    refine ⟨hm.offline, ?_, hm.resetIdle, hm.recovering, hm.blocked, hm.resetConfigured, hm.accused, ?_⟩
    · exact iff_of_false h1 (fun hf => h2 (hm.timer.2 hf))
    · exact fun h => h.elim (fun h => absurd h h1) h3

theorem KeepsAll.warnTimer (s : State) : KeepsAll s s.warnTimer :=
  .ite (fun h => KeepsAll.trans (.setTimer TimerState.noConfusion (by rw [h]; decide) TimerState.noConfusion) (.post _ _)) (fun _ => .refl s)

theorem KeepsAll.lapseTimer (s : State) : KeepsAll s s.lapseTimer :=
  .ite (fun h => KeepsAll.trans (.setTimer TimerState.noConfusion (by rw [h]; decide) (fun _ => rfl)) (.post _ _)) (fun _ => .refl s)

/-- A change of the Reset Unit alone keeps the form. -/
theorem KeepsForm.setReset (s : State) (r : ResetUnit) : KeepsForm s { s with ru := r } :=
  .of_vu rfl rfl (.of_hp rfl) (fun _ h => h)

/-- A change of the Reset Unit's flags alone, a release being requested in HELD while rounds pass, keeps all. -/
theorem KeepsAll.setFlags {s : State} {r : ResetUnit} (h1 : r.state = s.ru.state) (h2 : r.attempt = s.ru.attempt)
    (h3 : r.pulse = s.ru.pulse) (h4 : r.recovery = s.ru.recovery)
    (h5 : r.releaseRequested = true → s.ru.releaseRequested = true ∨ (s.ru.state = .held ∧ s.online = true)) :
    KeepsAll s { s with ru := r } where
  toKeepsForm := .setReset s r
  part := fun h => by
    refine ⟨h.line.of_lu (.of_hp rfl) rfl, h.membership.of_same rfl (.of_hp rfl) rfl h1 (.inl rfl) (fun _ h => ⟨h, id⟩), ?_⟩
    have hr := h.reset
    exact ⟨by dsimp only; rw [h1, h2]; exact hr.idle, by dsimp only; rw [h1, h2]; exact hr.attempt,
      by dsimp only; rw [h1, h2]; exact hr.held, by dsimp only; rw [h1, h3]; exact hr.pulse,
      by dsimp only; rw [h1, h4]; exact hr.recovery,
      fun hq => by dsimp only; rw [h1]; exact (h5 hq).elim hr.release And.left,
      fun hq => (h5 hq).elim hr.releaseOnline And.right⟩

/-- A Reset Unit within an attempt stays within one, at a configured station: its counts fit the state it takes (R109, R110, R112, R113). -/
theorem PartConsistent.inAttempt {s : State} (h : PartConsistent s) {r : ResetUnit}
    (hs : s.ru.state = .pulsing ∨ s.ru.state = .waiting) (hr : r.state = .pulsing ∨ r.state = .waiting)
    (ha : 1 ≤ r.attempt ∧ r.attempt ≤ s.resetLimit) (hp : r.state = .waiting → r.pulse = 0)
    (hw : r.recovery = 0 ↔ r.state = .pulsing) (hq : r.releaseRequested = s.ru.releaseRequested) :
    PartConsistent { s with ru := r } := by
  have hm := h.membership
  have hreq : r.releaseRequested = false := by
    rw [hq]
    refine Bool.eq_false_iff.2 fun hq => ?_
    have := h.reset.release hq
    rcases hs with hs | hs <;> rw [hs] at this <;> exact absurd this (by decide)
  have hidle : ¬ (s.own.state = .joining ∨ s.own.state.isMember = true) := fun hj => by
    have := hm.resetIdle hj
    rcases hs with hs | hs <;> rw [hs] at this <;> exact absurd this (by decide)
  have hne : r.state ≠ .idle ∧ r.state ≠ .held := by rcases hr with h | h <;> rw [h] <;> decide
  refine ⟨h.line.of_lu (.of_hp rfl) rfl, ?_, ?_⟩
  · refine ⟨hm.offline, hm.timer, fun hj => absurd hj hidle, fun _ => hr, fun ho _ => hm.blocked ho hs, fun _ => ?_, hm.accused, hm.remaining⟩
    exact hm.resetConfigured (by rcases hs with h | h <;> rw [h] <;> decide)
  · refine ⟨fun h => absurd h hne.1, fun _ => ha, fun h => absurd h hne.2, ?_, ?_, ?_, ?_⟩
    · exact fun hn => hp (hr.resolve_left hn)
    · dsimp only
      rw [hw]
      rcases hr with h | h <;> rw [h] <;> decide
    · exact fun hc => by dsimp only at hc; rw [hreq] at hc; exact absurd hc (by decide)
    · exact fun hc => by dsimp only at hc; rw [hreq] at hc; exact absurd hc (by decide)

/-- The record of a configured station asks for two recovery rounds at least (R144). -/
theorem PartConsistent.recoveryRounds {s : State} (h : PartConsistent s) (hs : s.ru.state ≠ .idle) : s.recoveryRounds ≠ 0 := by
  have := recordInRange_recoveryRounds (h.line.cfg_inRange (h.membership.resetConfigured hs))
  simp only [State.recoveryRounds]
  omega

theorem KeepsAll.endPulse (s : State) : KeepsAll s s.endPulse := by
  refine .ite (fun hs => KeepsAll.trans ⟨.setReset s _, fun h => ?_⟩ (.post _ _)) (fun _ => .refl s)
  refine h.inAttempt (.inl hs) (.inr rfl) (h.reset.attempt (.inl hs)) (fun _ => rfl) ?_ rfl
  exact iff_of_false (h.recoveryRounds (by rw [hs]; decide)) ResetState.noConfusion

theorem KeepsForm.startAttempt (s : State) : KeepsForm s s.startAttempt := (KeepsForm.setReset s _).trans (KeepsAll.post _ _).toKeepsForm

theorem KeepsAll.startAttempt_waiting {s : State} (hs : s.ru.state = .waiting) (hlt : s.ru.attempt < s.resetLimit) :
    KeepsAll s s.startAttempt := by
  refine KeepsAll.trans ⟨.setReset s _, fun h => ?_⟩ (.post _ _)
  exact h.inAttempt (.inr hs) (.inl rfl) ⟨Nat.le_add_left _ _, hlt⟩ ResetState.noConfusion (by simp) rfl

/-- A station at which rounds pass and whose Reset Unit is within an attempt is RECOVERING (R113, R121). -/
theorem MembershipConsistent.recovering_of_attempt {s : State} (h : MembershipConsistent s) (ho : s.online = true)
    (hs : s.ru.state = .pulsing ∨ s.ru.state = .waiting) : s.own.state = .recovering := by
  have hidle : s.ru.state ≠ .idle := by rcases hs with hs | hs <;> rw [hs] <;> decide
  cases hst : s.own.state with
  | recovering => rfl
  | absent =>
    have := h.blocked hst hs
    simp [State.online, this] at ho
  | joining => exact absurd (h.resetIdle (.inl hst)) hidle
  | member => exact absurd (h.resetIdle (.inr (by rw [hst]; rfl))) hidle
  | suspect => exact absurd (h.resetIdle (.inr (by rw [hst]; rfl))) hidle

/-- The own entry may become ABSENT at any time. -/
theorem MayReplace.ownAbsent (s : State) (a : Addr) : MayReplace s a ((s.entry a).moveTo .absent) := by
  refine ⟨fun _ h => h.moveTo_absent, fun _ _ h => ?_⟩
  unfold Entry.moveTo
  dsimp only
  split
  · exact ⟨h.incarnation, rfl, h.viewAgrees, h.mismatchSeen, rfl⟩
  · exact ⟨h.incarnation, h.missCount, h.viewAgrees, h.mismatchSeen, h.strangerReported⟩

/-- The own entry leaves the members for a state that has its incarnation. -/
theorem MayReplace.ownRecovering (s : State) (a : Addr) (hm : (s.entry a).state.isMember = true) :
    MayReplace s a { (s.entry a).moveTo .recovering with splits := 0 } := by
  refine ⟨fun _ h => (h.moveTo (by decide) fun _ => h.incarnation ?_).noSplits, fun _ _ h => ?_⟩
  · intro hc; rw [hc] at hm; exact absurd hm (by decide)
  · rw [Entry.moveTo_of_ne (by decide)]
    exact ⟨h.incarnation, h.missCount, h.viewAgrees, h.mismatchSeen, h.strangerReported⟩

theorem State.own_moveEntry_own (s : State) (f : Entry → Entry) : (s.moveEntry s.ownAddr f).own = f s.own := by
  simp [State.own, State.ownAddr]

theorem State.own_modifyEntry_own (s : State) (f : Entry → Entry) : (s.modifyEntry s.ownAddr f).own = f s.own := by
  simp [State.own, State.ownAddr]

/-- Moving an entry accuses nobody. -/
theorem State.inSet_hostAccused_moveEntry {s : State} {a b : Addr} {f : Entry → Entry} (h : inSet b s.vu.hostAccused = false) :
    inSet b (s.moveEntry a f).vu.hostAccused = false := by
  rw [State.moveEntry_eq]
  dsimp only
  split
  · exact h
  · rw [inSet_eraseAddr, h]; rfl

theorem KeepsForm.hold (s : State) : KeepsForm s s.hold := by
  refine ((KeepsForm.setReset s _).trans (KeepsAll.post _ _).toKeepsForm).trans (.moveEntry ?_)
  exact .ownAbsent _ _

theorem KeepsAll.hold {s : State} (ho : s.online = true) (hs : s.ru.state = .waiting) (hle : s.resetLimit ≤ s.ru.attempt) :
    KeepsAll s s.hold := by
  refine ⟨.hold s, fun h => ?_⟩
  have hm := h.membership
  have hrec := hm.recovering_of_attempt ho (.inr hs)
  have hnm : s.own.state.isMember = false := by rw [hrec]; rfl
  have hown : s.hold.own.state = .absent := by simp [State.hold, State.own, State.ownAddr]
  have hru : s.hold.ru = { s.ru with state := .held, recovery := 0, rstout := true } := by simp [State.hold]
  have hd : s.hold.pt.state = .disarmed := by rw [State.hold_pt]; exact hm.timer.2 hnm
  have hon : s.hold.online = true := by rw [State.online_of_lu s.hold_lu]; exact ho
  have hreq : s.ru.releaseRequested = false :=
    Bool.eq_false_iff.2 fun hq => by have := h.reset.release hq; rw [hs] at this; exact absurd this (by decide)
  refine ⟨(KeepsForm.hold s).line h.line, .of_nonmember (by rw [hown]; rfl) hd ?_ ?_ (fun _ => hown) ?_ ?_ ?_ ?_, ?_⟩
  · rw [State.hold_pt]; exact hm.remaining (.inl (hm.timer.2 hnm))
  · exact fun a => State.inSet_hostAccused_moveEntry (hm.not_accused hnm a)
  · rw [hown]; exact fun hc => absurd hc (by decide)
  · rw [hown]; exact fun hc => absurd hc (by decide)
  · simp [hru]
  · rw [State.hold_config]; exact fun _ => h.line.configured_of_online ho
  · have hlim : s.hold.resetLimit = s.resetLimit := by simp [State.resetLimit, State.cfg]
    refine ⟨?_, ?_, ?_, ?_, ?_, ?_, ?_⟩ <;> rw [hru]
    · simp
    · simp
    · intro _
      rw [hlim]
      exact le_antisymm (h.reset.attempt (.inr hs)).2 hle
    · exact fun _ => h.reset.pulse (by rw [hs]; decide)
    · simp
    · exact fun _ => rfl
    · exact fun hq => absurd hq (by rw [hreq]; decide)

theorem KeepsForm.endWindow (s : State) : KeepsForm s s.endWindow := .ite (fun _ => .startAttempt s) (fun _ => .hold s)

theorem KeepsAll.endWindow {s : State} (ho : s.online = true) (hs : s.ru.state = .waiting) : KeepsAll s s.endWindow :=
  .ite (fun hlt => .startAttempt_waiting hs hlt) (fun hlt => .hold ho hs (Nat.le_of_not_lt hlt))

theorem KeepsAll.countRecoveryRound {s : State} (ho : s.online = true) : KeepsAll s s.countRecoveryRound := by
  refine .ite (fun hs => .ite (fun _ => .endWindow ho hs) (fun hr => ⟨.setReset s _, fun h => ?_⟩)) (fun _ => .refl s)
  refine h.inAttempt (.inr hs) (.inr hs) (h.reset.attempt (.inr hs)) (fun _ => h.reset.pulse (by rw [hs]; decide)) ?_ rfl
  exact iff_of_false (by dsimp only; omega) (by rw [hs]; decide)

/-- A Reset Unit that becomes IDLE with its counts at 0 fits the line and a membership whose own entry is not RECOVERING. -/
theorem PartConsistent.of_idle {s : State} (hl : LineConsistent s) (hm : MembershipConsistent s) {r : ResetUnit} (hr : r.state = .idle)
    (h0 : r.attempt = 0) (h1 : r.pulse = 0) (h2 : r.recovery = 0) (h3 : r.releaseRequested = false) (hne : s.own.state ≠ .recovering) :
    PartConsistent { s with ru := r } := by
  refine ⟨hl.of_lu (.of_hp rfl) rfl, ?_, ?_⟩
  · refine ⟨hm.offline, hm.timer, fun _ => hr, fun ho => absurd ho hne, fun _ hc => ?_, fun hc => absurd hr hc, hm.accused, hm.remaining⟩
    dsimp only at hc
    rw [hr] at hc
    rcases hc with hc | hc <;> exact absurd hc (by decide)
  · refine ⟨fun _ => h0, ?_, ?_, fun _ => h1, ?_, ?_, ?_⟩ <;> dsimp only
    · rw [hr]; rintro (hc | hc) <;> exact absurd hc (by decide)
    · rw [hr]; exact fun hc => absurd hc (by decide)
    · rw [h2, hr]; decide
    · rw [h3]; exact fun hc => absurd hc (by decide)
    · rw [h3]; exact fun hc => absurd hc (by decide)

/-- The release of a HELD host, its counts those of a Reset Unit in HELD, fits the line and the membership (R119). -/
theorem PartConsistent.of_releaseHost {s x : State} (hl : LineConsistent s) (hm : MembershipConsistent s) (hr : ResetConsistent x)
    (hru : s.ru = x.ru) (hs : s.ru.state = .held) : PartConsistent s.releaseHost := by
  refine (KeepsAll.post _ _).part (.of_idle hl hm rfl rfl ?_ ?_ rfl (fun hc => ?_))
  · dsimp only
    rw [hru]; exact hr.pulse (by rw [← hru, hs]; decide)
  · dsimp only
    rw [hru]; exact hr.recovery.2 (by rw [← hru, hs]; decide)
  · have := hm.recovering hc
    rw [hs] at this
    rcases this with hc | hc <;> exact absurd hc (by decide)

theorem KeepsForm.releaseHost (s : State) : KeepsForm s s.releaseHost := (KeepsForm.setReset s _).trans (KeepsAll.post _ _).toKeepsForm

theorem KeepsAll.releaseHost {s : State} (hs : s.ru.state = .held) : KeepsAll s s.releaseHost :=
  ⟨.releaseHost s, fun h => .of_releaseHost h.line h.membership h.reset rfl hs⟩

theorem KeepsAll.releaseIfRequested (s : State) : KeepsAll s s.releaseIfRequested :=
  .ite (fun h => .releaseHost h.1) (fun _ => .refl s)

/-! ### The own entry leaves the members -/

/-- A change of the sets and marks of the View Unit, of the Prompt Timer and of the Condition Monitor keeps the form. -/
theorem KeepsForm.setMarks (s : State) (accused own : AddrSet) (leave foreign : Bool) (p : PromptTimer) (c : ConditionMonitor) :
    KeepsForm s { s with
      vu := { s.vu with hostAccused := accused, ownAccusations := own, leavePending := leave, foreignMark := foreign }
      pt := p, cm := c } :=
  .of_entries rfl (.of_hp rfl) (fun _ h => h) ⟨rfl, rfl, rfl, fun _ _ h => .inl h⟩ (fun _ _ h => h) (fun _ h => h)

theorem KeepsForm.post (e : Event) (s : State) : KeepsForm s (s.post e) := (KeepsAll.post e s).toKeepsForm

theorem KeepsForm.moveOwnAbsent (s : State) : KeepsForm s (s.moveEntry s.ownAddr (Entry.moveTo .absent)) :=
  .moveEntry (.ownAbsent s _)

theorem KeepsForm.depart (s : State) : KeepsForm s s.depart := by
  have h1 : KeepsForm s { s.disarmTimer with vu := { s.vu with hostAccused := 0 }, cm := { s.cm with service := 0 } } :=
    .setMarks s 0 _ _ _ _ _
  unfold State.depart
  dsimp only
  split
  · exact ((h1.trans (.post (.joinFailed .withdrawn) _)).trans (.moveOwnAbsent _)).trans (.setMarks _ _ _ _ _ _ _)
  · exact (h1.trans (.moveOwnAbsent _)).trans (.setMarks _ _ _ _ _ _ _)

/-- What a departure leaves for the membership (R62). -/
theorem State.depart_standing (s : State) : s.depart.own.state = .absent ∧ s.depart.pt = s.pt.disarmed ∧
    ∀ a, inSet a s.depart.vu.hostAccused = false := by
  have key (x : State) (hx : x.vu.hostAccused = 0) :
      (x.moveEntry x.ownAddr (Entry.moveTo .absent)).own.state = .absent ∧
      ∀ a, inSet a (x.moveEntry x.ownAddr (Entry.moveTo .absent)).vu.hostAccused = false :=
    ⟨by rw [State.own_moveEntry_own, Entry.moveTo_state],
     fun a => State.inSet_hostAccused_moveEntry (by rw [hx]; exact inSet_zero a)⟩
  unfold State.depart
  dsimp only
  split
  · exact ⟨(key _ (by simp)).1, by rw [State.moveEntry_pt]; rfl, (key _ (by simp)).2⟩
  · exact ⟨(key _ rfl).1, by rw [State.moveEntry_pt]; rfl, (key _ rfl).2⟩

/-- A JOINING, MEMBER or SUSPECT own entry may depart (R61, R62, R66). -/
theorem KeepsAll.depart {s : State} (hj : s.own.state = .joining ∨ s.own.state.isMember = true) : KeepsAll s s.depart := by
  refine ⟨.depart s, fun h => ?_⟩
  obtain ⟨hown, hpt, hacc⟩ := s.depart_standing
  have hidle := h.membership.resetIdle hj
  have hsetup : SameSetup s s.depart := by
    refine ⟨by simp, by simp, ?_⟩
    unfold State.depart; dsimp only; split <;> simp [State.disarmTimer]
  refine ⟨(KeepsForm.depart s).line h.line, .of_nonmember (by rw [hown]; rfl) (by rw [hpt]; rfl) (by rw [hpt]; rfl) hacc
    (fun _ => hown) ?_ ?_ ?_ ?_, h.reset.of_ru hsetup (State.online_of_lu (by simp)) (by simp)⟩
  all_goals simp [hown, hidle]

theorem KeepsForm.condemnOwn {s : State} (hm : s.own.state.isMember = true) : KeepsForm s s.condemnOwn := by
  have h1 : KeepsForm s (s.modifyEntry s.ownAddr (fun e => { e.moveTo .recovering with splits := 0 })) :=
    .modifyEntry (.ownRecovering s _ hm)
  have h2 := h1.trans (.post (.condemned s.ownAddr (s.accusers s.ownAddr)) _)
  exact (h2.trans (.setMarks _ 0 _ _ _ _ _)).trans (.startAttempt _)

theorem KeepsAll.condemnOwn {s : State} (ho : s.online = true) (hm : s.own.state.isMember = true) : KeepsAll s s.condemnOwn := by
  refine ⟨.condemnOwn hm, fun h => ?_⟩
  have hidle := h.membership.resetIdle (.inr hm)
  have hown : s.condemnOwn.own.state = .recovering := by
    simp [State.condemnOwn, State.own, State.ownAddr, State.entry, State.modifyEntry, State.setEntry, State.disarmTimer]
  have hpt : s.condemnOwn.pt = s.pt.disarmed := by
    simp [State.condemnOwn, State.disarmTimer, PromptTimer.disarmed]
  have hacc (a : Addr) : inSet a s.condemnOwn.vu.hostAccused = false := by
    have : s.condemnOwn.vu.hostAccused = 0 := by simp [State.condemnOwn]
    rw [this]; exact inSet_zero a
  have hru : s.condemnOwn.ru = s.attemptStarted := by
    simp [State.condemnOwn, State.startAttempt, State.attemptStarted, State.pulseMs, State.cfg]
  have hlim : s.condemnOwn.resetLimit = s.resetLimit := by simp [State.resetLimit, State.cfg]
  have hrange := recordInRange_resetLimit (h.line.cfg_inRange (h.line.configured_of_online ho))
  have hreq : s.ru.releaseRequested = false :=
    Bool.eq_false_iff.2 fun hq => by have := h.reset.release hq; rw [hidle] at this; exact absurd this (by decide)
  have hlu := s.condemnOwn_lu
  refine ⟨(KeepsForm.condemnOwn hm).line h.line, .of_nonmember (by rw [hown]; rfl) (by rw [hpt]; rfl) (by rw [hpt]; rfl) hacc
    ?_ ?_ ?_ ?_ ?_, ?_⟩
  · intro hd
    rw [hlu] at hd
    have := h.membership.offline hd
    rw [this] at hm
    exact absurd hm (by decide)
  · simp [hown]
  · simp [hru, State.attemptStarted]
  · simp [hown]
  · rw [State.condemnOwn_config]
    exact fun _ => h.line.configured_of_online ho
  · refine ⟨?_, fun _ => ?_, ?_, ?_, ?_, ?_, ?_⟩ <;> rw [hru]
    · simp [State.attemptStarted]
    · rw [hlim]
      simp only [State.attemptStarted, h.reset.idle hidle, State.resetLimit]
      omega
    · simp [State.attemptStarted]
    · simp [State.attemptStarted]
    · simp [State.attemptStarted]
    · simp [State.attemptStarted, hreq]
    · simp [State.attemptStarted, hreq]

/-! ### The round end -/

theorem KeepsAll.accountMiss (j : Addr) (s : State) : KeepsAll s (s.accountMiss j) := by
  refine .ite (fun _ => .refl s) (fun hj => ?_)
  have hk : j ≠ s.hp.address := fun h => hj (.inl h)
  have missed : KeepsAll s (s.modifyEntry j (fun e => { e with missCount := satAdd Config.missMax e.missCount })) :=
    .modifyPeer hk (fun _ h => ⟨satAdd_le _ _ h.missCount, h.splits, h.admission, h.admissionRange, h.incarnation⟩) id
  refine missed.trans (.ite (fun _ => .refl _) (fun _ => ?_))
  generalize hs1 : s.modifyEntry j (fun e => { e with missCount := satAdd Config.missMax e.missCount }) = s1
  have hk1 : j ≠ s1.hp.address := by rw [← hs1]; exact hk
  have gone (e : Event) : KeepsAll s1 ((s1.moveEntry j (Entry.moveTo .absent)).post e) :=
    KeepsAll.trans (.movePeer hk1 (fun _ h => h.moveTo_absent)) (.post e _)
  cases (s1.entry j).state with
  | recovering => exact gone _
  | joining => exact gone _
  | member => exact .testEvidence j s1
  | suspect => exact .testEvidence j s1
  | absent => exact .testEvidence j s1

theorem KeepsAll.condemnPeer {j : Addr} {s : State} (hj : j ≠ s.hp.address) (hm : (s.entry j).state.isMember = true) :
    KeepsAll s (s.condemnPeer j) := by
  refine KeepsAll.trans (.movePeer hj (fun _ h => ?_)) (.post _ _)
  have := (h.moveTo (st := .recovering) (by decide) fun _ => h.incarnation fun hc => by rw [hc] at hm; exact absurd hm (by decide)).noSplits
  exact ⟨Nat.zero_le _, this.splits, this.admission, this.admissionRange, this.incarnation⟩

/-- The splits count of any entry is a free item within its range (R1, R40, R41). -/
theorem KeepsAll.setSplits (j : Addr) (s : State) (g : Nat → Nat) (hg : ∀ n, n ≤ 255 → g n ≤ 255) :
    KeepsAll s (s.modifyEntry j (fun e => { e with splits := g e.splits })) :=
  .modifyEntry
    ⟨fun _ h => ⟨h.missCount, hg _ h.splits, h.admission, h.admissionRange, h.incarnation⟩,
     fun _ _ h => ⟨h.incarnation, h.missCount, h.viewAgrees, h.mismatchSeen, h.strangerReported⟩⟩ (.inl rfl)

theorem KeepsAll.splitEntry (j : Addr) (s : State) : KeepsAll s (s.splitEntry j) :=
  ((KeepsAll.suspect j .split s).trans (.setSplits j _ (satAdd Config.splitsMax) (fun n h => satAdd_le _ n h))).trans (.post _ _)

theorem KeepsAll.clearEntry (j : Addr) (s : State) : KeepsAll s (s.clearEntry j) := by
  refine .ite (fun hc => KeepsAll.trans (.modifyEntry ⟨fun _ h => ?_, fun _ _ h => ?_⟩ (.inr ⟨?_, ?_⟩)) (.post _ _)) (fun _ => .refl s)
  · exact h.moveTo (by decide) fun _ => h.incarnation (by rw [hc.1]; decide)
  · rw [Entry.moveTo_of_ne (by decide)]
    exact ⟨h.incarnation, h.missCount, h.viewAgrees, h.mismatchSeen, h.strangerReported⟩
  · rw [hc.1]; rfl
  · rw [Entry.moveTo_state]; rfl

theorem KeepsAll.applyVerdict {s : State} (ho : s.online = true) (c k : AddrSet) (j : Addr) : KeepsAll s (s.applyVerdict c k j) := by
  have ended : KeepsAll s (s.endSplits j) := .setSplits j s (fun _ => 0) (fun _ _ => Nat.zero_le _)
  unfold State.applyVerdict
  cases verdictOf c k j with
  | none => exact ended.trans (.clearEntry j _)
  | clear => exact ended.trans (.clearEntry j _)
  | split => exact .ite (fun _ => .splitEntry j s) (fun _ => .refl s)
  | condemn =>
    refine .ite (fun hm => .ite (fun hj => ?_) (fun hj => .condemnPeer hj hm)) (fun _ => ended)
    exact .condemnOwn ho (by rw [State.own, ← hj]; exact hm)

/-- The own entry's admission completes: MEMBER, with the Prompt Timer armed (R55, R97). -/
theorem KeepsAll.ownAdmitted {s : State} (hj : s.own.state = .joining) :
    KeepsAll s (s.modifyEntry s.ownAddr (Entry.moveTo .member)).armTimer := by
  have hform : KeepsForm s (s.modifyEntry s.ownAddr (Entry.moveTo .member)) := by
    refine .modifyEntry ⟨fun _ h => h.moveTo (by decide) fun _ => h.incarnation ?_, fun _ _ h => ?_⟩
    · intro hc
      have : (s.entry s.ownAddr).state = .joining := hj
      rw [hc] at this
      exact absurd this (by decide)
    · rw [Entry.moveTo_of_ne (by decide)]
      exact ⟨h.incarnation, h.missCount, h.viewAgrees, h.mismatchSeen, h.strangerReported⟩
  have harmed : KeepsForm s (s.modifyEntry s.ownAddr (Entry.moveTo .member)).armTimer :=
    hform.trans (.of_vu rfl rfl (.of_hp rfl) (fun _ h => h))
  refine ⟨harmed, fun h => ?_⟩
  have hm := h.membership
  have hown : (s.modifyEntry s.ownAddr (Entry.moveTo .member)).armTimer.own.state = .member := by
    rw [State.own_of (State.armTimer_vu _) (State.armTimer_address _), State.own_modifyEntry_own, Entry.moveTo_state]
  have hidle := hm.resetIdle (.inl hj)
  refine ⟨harmed.line h.line, ?_, h.reset.of_ru (.of_hp rfl) rfl rfl⟩
  refine ⟨?_, ?_, fun _ => hidle, ?_, ?_, fun hc => absurd hidle hc, ?_, ?_⟩
  · intro hd
    have := hm.offline hd
    rw [hj] at this
    exact absurd this (by decide)
  · rw [hown]; exact iff_of_false TimerState.noConfusion (by decide)
  · rw [hown]; exact fun hc => absurd hc (by decide)
  · rw [hown]; exact fun hc => absurd hc (by decide)
  · intro a ha
    have : inSet a s.vu.hostAccused = false := hm.not_accused (by rw [hj]; rfl) a
    exact absurd ha (Bool.eq_false_iff.1 this)
  · rintro (hc | hc) <;> exact TimerState.noConfusion hc

theorem KeepsAll.completeAdmission {s : State} (hj : s.own.state = .joining) : KeepsAll s s.completeAdmission :=
  ((KeepsAll.ownAdmitted hj).trans (.post _ _)).trans (.foldl (fun t a => by simp) (fun t a _ => .testEvidence a t) _)

/-- A JOINING own entry may become ABSENT, nobody being accused and no timer running (R54, R60). -/
theorem KeepsAll.ownWithdrawn {s : State} (hj : s.own.state = .joining) : KeepsAll s (s.moveEntry s.ownAddr (Entry.moveTo .absent)) := by
  refine ⟨.moveOwnAbsent s, fun h => ?_⟩
  have hm := h.membership
  have hnm : s.own.state.isMember = false := by rw [hj]; rfl
  have hd := hm.timer.2 hnm
  have hidle := hm.resetIdle (.inl hj)
  have hown : (s.moveEntry s.ownAddr (Entry.moveTo .absent)).own.state = .absent := by
    rw [State.own_moveEntry_own, Entry.moveTo_state]
  refine ⟨(KeepsForm.moveOwnAbsent s).line h.line, .of_nonmember (by rw [hown]; rfl) (by simpa using hd)
    (by simpa using hm.remaining (.inl hd)) (fun a => State.inSet_hostAccused_moveEntry (hm.not_accused hnm a)) (fun _ => hown) ?_ ?_ ?_ ?_,
    h.reset.of_ru (.of_hp (by simp)) (State.online_of_lu (by simp)) (by simp)⟩
  all_goals simp [hown, hidle]

theorem KeepsAll.admissionStep (s : State) : KeepsAll s s.admissionStep := by
  refine .ite (fun hj => .ite (fun _ => (KeepsAll.ownWithdrawn hj).trans (.post _ _)) (fun _ => .ite (fun _ => ?_) (fun _ => .refl s)))
    (fun _ => .refl s)
  refine .ite (fun _ => .completeAdmission hj) (fun hn => .modifyEntry ⟨fun _ h => ?_, fun _ _ h => ?_⟩ (.inl rfl))
  · have hle : s.own.admission.getD 0 ≤ 8 := h.admission_getD
    exact h.withAdmission hj (by omega)
  · exact ⟨h.incarnation, h.missCount, h.viewAgrees, h.mismatchSeen, h.strangerReported⟩

theorem KeepsAll.roundEndWork {s : State} (ho : s.online = true) (b : Bool) : KeepsAll s (s.roundEndWork b) := by
  have misses : KeepsAll s (if b then s else allAddrs.foldl (fun t j => t.accountMiss j) s) :=
    .ite (fun _ => .refl s) (fun _ => .foldl (fun t a => by simp) (fun t a _ => .accountMiss a t) _)
  have hlu : (if b then s else allAddrs.foldl (fun t j => t.accountMiss j) s).lu = s.lu := by
    split
    · rfl
    · exact foldl_keeps (fun t : State => t.lu = s.lu) _ (fun t a h => by simpa using h) _ s rfl
  unfold State.roundEndWork
  refine (misses.trans (.foldl (fun t a => by simp) (fun t a ht => .applyVerdict ?_ _ _ a) _)).trans (.admissionStep _)
  rw [State.online_of_lu (ht.trans hlu)]
  exact ho

theorem KeepsAll.resync {s : State} (ho : s.online = true) (hp : s.lu.pos ≠ .outside) (hd : s.lu.driving = .nothing) :
    KeepsAll s s.resync := by
  unfold State.resync
  cases s.lu.resyncNumber with
  | none => exact .refl s
  | some x =>
    have numbered : KeepsAll s { s with lu := { s.lu with roundNumber := x } } := .inRound ho (.quiet rfl rfl rfl rfl hp hd) rfl rfl
    exact numbered.trans (.post (.roundResync s.lu.roundNumber x) _)

@[simp] theorem State.resync_online (s : State) : s.resync.online = s.online := by
  unfold State.resync
  cases s.lu.resyncNumber <;> rfl

theorem KeepsAll.endRound (c k : AddrSet) (s : State) : KeepsAll s (s.endRound c k) := by
  refine .ite (fun hready => ?_) (fun _ => .refl s)
  obtain ⟨ho, -⟩ := hready
  have sampled : KeepsAll s (State.sampleField c k { s with lu := { s.lu with pos := .rest, driving := .nothing } }) :=
    .inRound ho (.quiet rfl rfl rfl rfl RoundPos.noConfusion rfl) rfl rfl
  refine sampled.trans ?_
  generalize hs1 : State.sampleField c k { s with lu := { s.lu with pos := .rest, driving := .nothing } } = s1
  have ho1 : s1.online = true := by rw [← hs1]; exact ho
  have hp1 : s1.lu.pos ≠ .outside := by rw [← hs1]; exact RoundPos.noConfusion
  have hd1 : s1.lu.driving = .nothing := by rw [← hs1]; rfl
  have hresync (t : State) (ht : t.lu = s1.lu) : KeepsAll t t.resync ∧ t.resync.online = true := by
    have hot : t.online = true := by rw [State.online_of_lu ht]; exact ho1
    exact ⟨.resync hot (by rw [ht]; exact hp1) (by rw [ht]; exact hd1), by rw [State.resync_online]; exact hot⟩
  have checked : KeepsAll s1 (if s1.releaseDue && Config.releaseBeforeResync then s1.releaseIfRequested.resync else s1.resync) ∧
      (if s1.releaseDue && Config.releaseBeforeResync then s1.releaseIfRequested.resync else s1.resync).online = true := by
    split
    · exact ⟨(KeepsAll.releaseIfRequested s1).trans (hresync _ (by simp)).1, (hresync _ (by simp)).2⟩
    · exact hresync s1 rfl
  dsimp only
  generalize (if s1.releaseDue && Config.releaseBeforeResync then s1.releaseIfRequested.resync else s1.resync) = s2 at checked ⊢
  obtain ⟨h12, ho2⟩ := checked
  refine h12.trans (.ite (fun _ => ?_) (fun _ => ?_))
  · exact (KeepsAll.releaseIfRequested s2).trans (.roundEndWork (by rw [State.online_of_lu s2.releaseIfRequested_lu]; exact ho2) _)
  · exact (KeepsAll.roundEndWork ho2 _).trans (.releaseIfRequested _)

/-! ### Leaving the rounds and coming back -/

/-- A Line Unit outside the rounds, in BLOCKED or waiting for release in LISTENING, at a configured station. -/
theorem LineConsistent.outOfRounds {s t : State} (h : LineConsistent s) (ho : s.online = true) (hs : SameSetup s t)
    (hst : (t.lu.state = .blocked ∧ t.lu.waitRelease = s.lu.waitRelease) ∨ (t.lu.state = .listening ∧ t.lu.waitRelease = true))
    (hp : t.lu.pos = .outside) (hr : t.lu.roundTimer = none) (hw : t.lu.listenWindow = none) (hd : t.lu.driving = .nothing) :
    LineConsistent t := by
  have hoff : t.online = false := by rcases hst with hst | hst <;> simp [State.online, hst.1]
  have hns : t.searching = false := by rcases hst with hst | hst <;> simp [State.searching, hst.1, hst.2]
  have hwait : s.lu.waitRelease = false := Bool.eq_false_iff.2 fun hc => by
    have := h.waiting hc
    simp [State.online, this] at ho
  refine ⟨?_, by rw [hs.digest, hs.config]; exact h.digest, by rw [hs.config]; exact h.record, by simp [hp, hoff], by simp [hr, hoff],
    by simp [hw, hns], ?_, ?_, fun _ => hd⟩
  · rw [hs.config]
    exact iff_of_false (h.configured_of_online ho) (by rcases hst with hst | hst <;> rw [hst.1] <;> decide)
  · rcases hst with hst | hst
    · rw [hst.2, hwait]; exact fun hc => absurd hc (by decide)
    · exact fun _ => hst.1
  · rw [hd]; rintro (hc | hc) <;> cases hc

/-- The membership and the Reset Unit of a station that leaves the rounds, once a requested release is carried out (R119). -/
theorem PartConsistent.of_releaseIfRequested {s x : State} (hl : LineConsistent s) (hm : MembershipConsistent s)
    (hr : ResetConsistent x) (hru : s.ru = x.ru) (hs : SameSetup x s) : PartConsistent s.releaseIfRequested := by
  unfold State.releaseIfRequested
  split
  · next hdue => exact .of_releaseHost hl hm hr hru hdue.1
  · next hdue =>
    have hreq : s.ru.releaseRequested ≠ true := fun hq => hdue ⟨by rw [hru] at hq ⊢; exact hr.release hq, hq⟩
    refine ⟨hl, hm, ?_⟩
    refine ⟨by rw [hru]; exact hr.idle, by rw [hru, hs.resetLimit]; exact hr.attempt, by rw [hru, hs.resetLimit]; exact hr.held,
      by rw [hru]; exact hr.pulse, by rw [hru]; exact hr.recovery, by rw [hru]; exact hr.release, fun hq => absurd hq hreq⟩

theorem KeepsForm.postLeaving (e : Event) (s : State) : KeepsForm s (s.postLeaving e) :=
  .ite (fun _ => (KeepsAll.releaseIfRequested s).toKeepsForm.trans (.post e _))
    (fun _ => (KeepsForm.post e s).trans (KeepsAll.releaseIfRequested _).toKeepsForm)

/-- The record of the line event beside it changes nothing of that. -/
theorem PartConsistent.of_postLeaving {s x : State} (e : Event) (hl : LineConsistent s) (hm : MembershipConsistent s)
    (hr : ResetConsistent x) (hru : s.ru = x.ru) (hs : SameSetup x s) : PartConsistent (s.postLeaving e) := by
  unfold State.postLeaving
  split
  · exact (KeepsAll.post e _).part (.of_releaseIfRequested hl hm hr hru hs)
  · refine .of_releaseIfRequested ((KeepsForm.post e s).line hl) ?_ hr (by simpa using hru) (hs.trans (.post e s))
    exact hm.of_same rfl (.post e s) rfl rfl (.inl (by rw [State.own_of (State.post_vu e s) (State.post_address e s)]))
      (fun _ ha => ⟨ha, by simp⟩)

/-- The votes at a station that leaves the rounds. -/
theorem VotesConsistent.outOfRounds {s t : State} (h : VotesConsistent s) (hv : VotersStand s t) (ho : t.online = false)
    (hc : t.lu.condemnDrive = s.lu.condemnDrive) (hk : t.lu.clearDrive = s.lu.clearDrive)
    (ha : t.hp.address = s.hp.address) : VotesConsistent t :=
  h.of_voters hv (by rw [ho]; exact fun hf => absurd hf (by decide)) hc hk ha

theorem KeepsAll.restartMeasurement (s : State) : KeepsAll s s.restartMeasurement := by
  refine .ite (fun _ => ?_) (fun _ => .refl s)
  refine KeepsForm.keepsAll ⟨fun h => ?_, fun _ h => h.of_entries (fun _ h => h) (fun _ h => h) id, fun h => ?_⟩
    rfl (.of_hp rfl) rfl rfl (.inl rfl) (fun _ h => ⟨h, id⟩)
  · exact ⟨h.configured, h.digest, h.record, h.round, h.roundTimer, h.listenWindow, h.waiting, h.driving, h.silent⟩
  · exact ⟨h.voterCount, h.tally, h.quorum, h.oneSide, h.notOwn⟩

theorem KeepsAll.stickLine (s : State) : KeepsAll s s.stickLine := by
  refine .ite (fun ho => ?_) (fun _ => .restartMeasurement s)
  have hlisten : KeepsForm s { s.leaveRounds .listening with
      lu := { (s.leaveRounds .listening).lu with waitRelease := true, recessiveTime := 0 } } :=
    ⟨fun h => h.outOfRounds ho ⟨rfl, rfl, rfl⟩ (.inr ⟨rfl, rfl⟩) rfl rfl rfl rfl,
     fun _ h => h.of_entries (fun _ h => h) (fun _ h => h) id,
     fun h => h.outOfRounds ⟨rfl, rfl, rfl, fun _ _ h => .inl h⟩ rfl rfl rfl rfl⟩
  refine ⟨hlisten.trans (.postLeaving _ _), fun h => .of_postLeaving .lineStuck (hlisten.line h.line) ?_ h.reset rfl ⟨rfl, rfl, rfl⟩⟩
  have hm := h.membership
  refine ⟨?_, hm.timer, hm.resetIdle, hm.recovering, fun ha hr => ?_, hm.resetConfigured, hm.accused, hm.remaining⟩
  · rintro (hc | hc) <;> exact LineState.noConfusion hc
  · have := hm.blocked ha hr
    simp [State.online, this] at ho

/-- What the View Unit's withdrawal leaves for the membership (R85). -/
theorem State.withdrawBlocked_standing (s : State) : s.withdrawBlocked.own.state = .absent ∧ s.withdrawBlocked.pt = s.pt.disarmed ∧
    s.withdrawBlocked.vu.hostAccused = 0 := by
  unfold State.withdrawBlocked
  dsimp only
  refine ⟨?_, ?_, rfl⟩
  · split <;> simp [State.own, State.entry, State.ownAddr, State.disarmTimer, State.moveEntry_eq]
  · split <;> simp [State.disarmTimer, PromptTimer.disarmed]

theorem KeepsForm.withdrawBlocked (s : State) : KeepsForm s s.withdrawBlocked := by
  have h1 := KeepsForm.moveOwnAbsent s
  unfold State.withdrawBlocked
  dsimp only
  split
  · exact (h1.trans (.post (.joinFailed .duplicateAddress) _)).trans (.setMarks _ _ _ _ _ _ _)
  · exact h1.trans (.setMarks _ _ _ _ _ _ _)

theorem KeepsAll.takeCollision (s : State) : KeepsAll s s.takeCollision := by
  refine .ite (fun hc => ?_) (fun _ => .refl s)
  have ho : s.online = true := s.online_iff.2 (.inr hc.1)
  obtain ⟨hown, hpt, hacc⟩ := s.withdrawBlocked_standing
  have hwlu := s.withdrawBlocked_lu
  have hsetup : SameSetup s s.withdrawBlocked := by
    refine ⟨by simp, by simp, ?_⟩
    unfold State.withdrawBlocked; dsimp only; split <;> simp [State.disarmTimer]
  have hleft : KeepsForm s (s.withdrawBlocked.leaveRounds .blocked) := by
    refine (KeepsForm.withdrawBlocked s).trans ⟨fun h => h.outOfRounds ?_ ⟨rfl, rfl, rfl⟩ (.inl ⟨rfl, rfl⟩) rfl rfl rfl rfl,
      fun _ h => h.of_entries (fun _ h => h) (fun _ h => h) id,
      fun h => h.outOfRounds ⟨rfl, rfl, rfl, fun _ _ h => .inl h⟩ rfl rfl rfl rfl⟩
    rw [State.online_of_lu hwlu]; exact ho
  refine ⟨hleft.trans (.postLeaving _ _), fun h => .of_postLeaving .duplicateAddress (hleft.line h.line) ?_ h.reset (by simp) ?_⟩
  · have hown' : (s.withdrawBlocked.leaveRounds .blocked).own.state = .absent := hown
    refine .of_nonmember (by rw [hown']; rfl) (by rw [State.leaveRounds_pt, hpt]; rfl) (by rw [State.leaveRounds_pt, hpt]; rfl)
      (fun a => ?_) (fun _ => hown') ?_ ?_ (fun _ _ => rfl) ?_
    · have : (s.withdrawBlocked.leaveRounds .blocked).vu.hostAccused = 0 := hacc
      rw [this]; exact inSet_zero a
    · rw [hown']; exact fun hc => absurd hc (by decide)
    · rw [hown']; exact fun hc => absurd hc (by decide)
    · rw [State.leaveRounds_config, State.withdrawBlocked_config]
      exact fun _ => h.line.configured_of_online ho
  · exact hsetup.trans ⟨rfl, rfl, rfl⟩

theorem KeepsAll.releaseLine (s : State) : KeepsAll s s.releaseLine := by
  refine .ite (fun hw => (KeepsAll.post .lineReleased s).trans ?_) (fun _ => .refl s)
  have hl : s.lu.state = .listening := by
    simp only [State.waitingRelease, Bool.and_eq_true, beq_iff_eq] at hw; exact hw.1
  refine KeepsForm.keepsAll ⟨fun h => ?_, fun _ h => h.of_entries (fun _ h => h) (fun _ h => h) id,
      fun h => ⟨h.voterCount, h.tally, h.quorum, h.oneSide, h.notOwn⟩⟩ rfl (.of_hp rfl) rfl rfl (.inl rfl) (fun _ h => ⟨h, id⟩)
  exact ⟨h.configured, h.digest, h.record, h.round, h.roundTimer, iff_of_true rfl (by simp [State.searching, hl]),
    Bool.noConfusion, h.driving, h.silent⟩

/-- The start of a round with its voters keeps all, from every line state in which a mark may be taken (R5, R31, R75, R78). -/
theorem KeepsAll.startRound {s : State} (h1 : s.lu.state ≠ .detached) (h2 : s.lu.state ≠ .blocked) {d : Driving}
    (hd : d = .nothing ∨ d = .mark) (fresh : Bool) : KeepsAll s (s.startRound d fresh).formVoters := by
  have hst : (s.startRound d fresh).formVoters.lu.state = .active ∨ (s.startRound d fresh).formVoters.lu.state = .synced := by
    simp only [State.formVoters, State.startRound]
    split
    · exact .inl rfl
    · exact .inr rfl
  have hon : (s.startRound d fresh).formVoters.online = true := (State.online_iff _).2 hst.symm
  have hline (h : LineConsistent s) : LineConsistent (s.startRound d fresh).formVoters := by
    refine ⟨?_, h.digest, h.record, iff_of_false RoundPos.noConfusion (by rw [hon]; decide), iff_of_true rfl hon, ?_,
      Bool.noConfusion, ?_, by rw [hon]; exact Bool.noConfusion⟩
    · exact iff_of_false (fun hc => h1 (h.configured.1 hc)) (by rcases hst with hst | hst <;> rw [hst] <;> decide)
    · exact iff_of_false (by simp [State.formVoters, State.startRound])
        (by rw [State.searching]; rcases hst with hst | hst <;> rw [hst] <;> simp)
    · have : (s.startRound d fresh).formVoters.lu.driving = d := rfl
      rw [this]
      rcases hd with hd | hd <;> rw [hd] <;> rintro (hc | hc) <;> cases hc
  refine ⟨⟨hline, fun _ h => h.of_entries (fun _ h => h) (fun _ h => h) id, fun h => ?_⟩, fun h => ⟨hline h.line, ?_, ?_⟩⟩
  · refine ⟨rfl, fun j a hj => ?_, fun _ => Nat.le_max_right _ _, h.oneSide, h.notOwn⟩
    have : (s.startRound d fresh).formVoters.vu.tally[j] = 0 := by simp [State.formVoters]
    rw [this, inSet_zero] at hj
    exact absurd hj (by decide)
  · have hm := h.membership
    refine ⟨?_, hm.timer, hm.resetIdle, hm.recovering, fun ha hr => absurd (hm.blocked ha hr) h2, hm.resetConfigured, hm.accused, hm.remaining⟩
    rcases hst with hst | hst <;> rw [hst] <;> rintro (hc | hc) <;> cases hc
  · have hr := h.reset
    exact ⟨hr.idle, hr.attempt, hr.held, hr.pulse, hr.recovery, hr.release, fun _ => hon⟩

/-- While rounds pass, or while the station searches, a round may begin. -/
theorem State.startRound_online (s : State) (d : Driving) (fresh : Bool) : (s.startRound d fresh).formVoters.online = true := by
  simp only [State.online, State.formVoters, State.startRound]
  split <;> rfl

theorem KeepsAll.beginRound {s : State} (ho : s.online = true) {d : Driving} (hd : d = .nothing ∨ d = .mark) :
    KeepsAll s (s.beginRound d) := by
  have h := s.online_iff.1 ho
  refine (KeepsAll.startRound ?_ ?_ hd false).trans (.countRecoveryRound (s.startRound_online d false))
  all_goals rcases h with h | h <;> rw [h] <;> decide

theorem KeepsAll.enterSynced {s : State} (hs : s.searching = true) {d : Driving} (hd : d = .nothing ∨ d = .mark) (w : WayOfEntry) :
    KeepsAll s (s.enterSynced d w) := by
  have h : s.lu.state = .listening := by
    simp only [State.searching, Bool.and_eq_true, beq_iff_eq] at hs; exact hs.1
  refine (KeepsAll.startRound (by rw [h]; decide) (by rw [h]; decide) hd true).trans (.ite (fun _ => ?_) (fun _ => ?_))
  · exact (KeepsAll.countRecoveryRound (s.startRound_online d true)).trans (.post _ _)
  · exact (KeepsAll.post _ _).trans (.countRecoveryRound (s.startRound_online d true))

theorem KeepsAll.takeMark (s : State) : KeepsAll s s.takeMark :=
  .ite (fun ho => .ite (fun _ => .beginRound ho (.inl rfl)) (fun _ => .refl s))
    (fun _ => .ite (fun hs => .enterSynced hs (.inl rfl) _) (fun _ => .restartMeasurement s))

theorem KeepsAll.expireRoundTimer (s : State) : KeepsAll s s.expireRoundTimer :=
  .ite (fun h => .beginRound h.1 (.inr rfl)) (fun _ => .refl s)

theorem KeepsAll.expireListenWindow (s : State) : KeepsAll s s.expireListenWindow :=
  .ite (fun h => .enterSynced h (.inr rfl) _) (fun _ => .refl s)

/-! ### The host port -/

theorem KeepsAll.answerWith (st : Status) (data : List Byte) (adv : Option Advance) (s : State) : KeepsAll s (s.answerWith st data adv) :=
  .of_blocks rfl rfl ⟨rfl, rfl, rfl⟩ (fun _ h => h) rfl rfl

theorem KeepsAll.answer (st : Status) (data : List Byte) (s : State) : KeepsAll s (s.answer st data) := .answerWith st data none s

theorem KeepsAll.takeIn {f : State → State} {s : State} (h : KeepsAll s (f s)) : KeepsAll s (s.takeIn f) :=
  .ite (fun _ => h) (fun _ => .refl s)

theorem KeepsAll.ifConfigured {f : State → State} {s : State} (h : KeepsAll s (f s)) : KeepsAll s (s.ifConfigured f) :=
  .ite (fun _ => h) (fun _ => .answer _ _ s)

/-- A part whose blocks have their power-on values meets every invariant (R21, R94, R95, R107). -/
theorem KeepsAll.of_fresh {s t : State} {i : Byte} {b : Bool} (hl : t.lu = LineUnit.reset) (hv : t.vu = ViewUnit.reset t.hp.address i)
    (hp : t.pt = PromptTimer.reset) (hr : t.ru = ResetUnit.reset b) (hc : t.hp.config = none) (hd : t.hp.digest = none)
    (hn : t.hp.snapshot = none) : KeepsAll s t := by
  have he (a : Addr) : t.entry a = if a = t.hp.address then { Entry.reset with incarnation := some i } else Entry.reset := by
    rw [State.entry, hv]; exact ViewUnit.reset_table _ a i
  have hown : t.own = { Entry.reset with incarnation := some i } := by rw [State.own, he, State.ownAddr, if_pos rfl]
  have hline : LineConsistent t := by
    refine ⟨?_, ?_, ?_, ?_, ?_, ?_, ?_, ?_, ?_⟩
    all_goals simp [hl, hc, hd, LineUnit.reset, State.online, State.searching]
  have hacc (a : Addr) : inSet a t.vu.hostAccused = false := by rw [hv]; exact inSet_zero a
  refine ⟨⟨fun _ => hline, fun _ _ => ⟨fun a => ?_, ?_, by simp [hn]⟩, fun _ => ?_⟩, fun _ => ⟨hline, ?_, ?_⟩⟩
  · rw [he]
    split
    · exact ⟨Nat.zero_le _, Nat.zero_le _, by simp [Entry.reset], by simp [Entry.reset], fun _ => rfl⟩
    · exact ⟨Nat.zero_le _, Nat.zero_le _, by simp [Entry.reset], by simp [Entry.reset], fun h => absurd rfl h⟩
  · rw [hown]; exact ⟨rfl, rfl, rfl, rfl, rfl⟩
  · refine ⟨by rw [hv]; exact (by decide : 0 = setSize 0), fun j a hj => ?_, by simp [hl, LineUnit.reset, State.online], ?_, ?_⟩
    · have : t.vu.tally[j] = 0 := by simp [hv, ViewUnit.reset]
      rw [this, inSet_zero] at hj
      exact absurd hj (by decide)
    · rintro j ⟨hc, -⟩
      rw [hl] at hc
      exact absurd hc (Bool.eq_false_iff.1 (inSet_zero j))
    · rw [hl]; exact ⟨inSet_zero _, inSet_zero _⟩
  · refine .of_nonmember (by rw [hown]; rfl) (by rw [hp]; rfl) (by rw [hp]; rfl) hacc (fun _ => by rw [hown]; rfl) ?_ ?_ ?_ ?_
    all_goals simp [hown, hr, Entry.reset, ResetUnit.reset]
  · refine ⟨?_, ?_, ?_, ?_, ?_, ?_, ?_⟩
    all_goals simp [hr, ResetUnit.reset]

theorem KeepsAll.restartBody (s : State) : KeepsAll s s.restartBody :=
  .ite (fun _ => KeepsAll.trans (.of_fresh rfl rfl rfl rfl rfl rfl rfl) (.answer _ _ s.restarted)) (fun _ => .answer _ _ s)

/-- An accepted configuration brings a DETACHED station into the search (R146). -/
theorem KeepsAll.configureBody (r : ConfigRecord) (s : State) : KeepsAll s (s.configureBody r) := by
  refine .ite (fun _ => .answer _ _ s) (fun hc => .ite (fun _ => .answer _ _ s) (fun hrange => KeepsAll.trans ?_ (.answer _ _ _)))
  have hnone : s.hp.config = none := by simpa [State.configured] using hc
  have hin : recordInRange r = true := by simpa using hrange
  have hline (h : LineConsistent s) : LineConsistent { s with
      hp := { s.hp with config := some r, digest := some (profileDigest r) }
      lu := { s.lu with state := .listening, waitRelease := false, listenWindow := some (2 * (10 * r.roundPeriod.toNat)) } } := by
    have hdet := h.configured.1 hnone
    have hoff : s.online = false := by simp [State.online, hdet]
    have hdrive := h.silent hoff
    refine ⟨iff_of_false (Option.some_ne_none _) LineState.noConfusion, rfl, fun r' hr => ?_, iff_of_true (h.round.2 hoff) rfl,
      iff_of_false (fun ht => ?_) Bool.noConfusion, iff_of_true rfl rfl, fun _ => rfl, ?_, fun _ => hdrive⟩
    · rw [← Option.some.inj hr]; exact hin
    · have := h.roundTimer.1 ht
      rw [hoff] at this
      exact absurd this (by decide)
    · dsimp only
      rw [hdrive]
      rintro (hc | hc) <;> cases hc
  refine ⟨⟨hline, fun _ h => h.of_entries (fun _ h => h) (fun _ h => h) id, fun h => ?_⟩, fun h => ⟨hline h.line, ?_, ?_⟩⟩
  · exact ⟨h.voterCount, h.tally, Bool.noConfusion, h.oneSide, h.notOwn⟩
  · have hm := h.membership
    have hidle : s.ru.state = .idle := by
      by_contra hne
      exact hm.resetConfigured hne hnone
    refine ⟨?_, hm.timer, hm.resetIdle, hm.recovering, fun _ hr => ?_, fun hne => absurd hidle hne, hm.accused, hm.remaining⟩
    · rintro (hc | hc) <;> exact LineState.noConfusion hc
    · dsimp only at hr
      rw [hidle] at hr
      rcases hr with hr | hr <;> cases hr
  · have hidle : s.ru.state = .idle := by
      by_contra hne
      exact h.membership.resetConfigured hne hnone
    have hr := h.reset
    refine ⟨hr.idle, ?_, ?_, hr.pulse, hr.recovery, hr.release, fun hq => ?_⟩
    · dsimp only; rw [hidle]; rintro (hc | hc) <;> cases hc
    · dsimp only; rw [hidle]; exact ResetState.noConfusion
    · have := hr.release hq
      rw [hidle] at this
      cases this

/-- The rejoining host ends the attempt of a WAITING Reset Unit (R116). -/
theorem State.rejoin_ru (s : State) : s.rejoin.ru =
    if s.ru.state = .waiting then { s.ru with state := .idle, recovery := 0, confirmed := false, rstout := false, attempt := 0 }
    else s.ru := by
  unfold State.rejoin
  split <;> rfl

theorem KeepsForm.rejoin (s : State) : KeepsForm s s.rejoin :=
  .ite (fun _ => ((KeepsForm.setReset s _).trans (.post _ _)).trans (.setReset _ _)) (fun _ => .refl s)

theorem SameSetup.rejoin (s : State) : SameSetup s s.rejoin := by
  refine ⟨by simp, by simp, ?_⟩
  unfold State.rejoin
  split <;> simp

theorem KeepsAll.joinBody (s : State) : KeepsAll s s.joinBody := by
  refine .ite (fun hmay => KeepsAll.trans ?_ (.answer _ _ _)) (fun _ => .answer _ _ s)
  simp only [State.mayJoin, Bool.and_eq_true, Bool.or_eq_true, beq_iff_eq] at hmay
  obtain ⟨⟨ho, hst⟩, hru⟩ := hmay
  have hjoined : KeepsForm s (s.modifyEntry s.ownAddr (fun e =>
      { e.startJoining s.admitRounds with incarnation := some (s.ownIncarnation + 1) })) := by
    refine .modifyEntry ⟨fun hl h => h.startJoining (hl.admitRounds ho) _, fun _ _ h => ?_⟩
    rw [Entry.startJoining, Entry.moveTo_of_ne (by decide)]
    exact ⟨rfl, h.missCount, h.viewAgrees, h.mismatchSeen, h.strangerReported⟩
  have hform := hjoined.trans (.setMarks _ s.vu.hostAccused s.vu.ownAccusations s.vu.leavePending false s.pt s.cm)
  generalize hx : ({ s.modifyEntry s.ownAddr (fun e =>
    { e.startJoining s.admitRounds with incarnation := some (s.ownIncarnation + 1) }) with
      vu := { (s.modifyEntry s.ownAddr (fun e =>
        { e.startJoining s.admitRounds with incarnation := some (s.ownIncarnation + 1) })).vu with foreignMark := false } } : State) = x
  have hxform : KeepsForm s x := by rw [← hx]; exact hform
  have hxown : x.own.state = .joining := by
    rw [← hx]
    simp [State.own, State.ownAddr, State.entry, State.modifyEntry, State.setEntry, Entry.startJoining]
  have hxpt : x.pt = s.pt := by rw [← hx]; rfl
  have hxru : x.ru = s.ru := by rw [← hx]; rfl
  have hxlu : x.lu = s.lu := by rw [← hx]; rfl
  have hxacc : x.vu.hostAccused = s.vu.hostAccused := by rw [← hx]; rfl
  have hxset : SameSetup s x := by rw [← hx]; exact .of_hp rfl
  refine ⟨hxform.trans (.rejoin x), fun h => ?_⟩
  have hm := h.membership
  have hnm : s.own.state.isMember = false := by rcases hst with hst | hst <;> rw [hst] <;> rfl
  have hdis := hm.timer.2 hnm
  have hown : x.rejoin.own.state = .joining := by rw [State.own_of x.rejoin_vu x.rejoin_address]; exact hxown
  have hidle : x.rejoin.ru.state = .idle := by
    rw [State.rejoin_ru, hxru]
    split
    · rfl
    · next hw => exact hru.resolve_right hw
  have hpt : x.rejoin.pt = s.pt := by rw [State.rejoin_pt, hxpt]
  refine ⟨(hxform.trans (.rejoin x)).line h.line, .of_nonmember (by rw [hown]; rfl) (by rw [hpt]; exact hdis)
    (by rw [hpt]; exact hm.remaining (.inl hdis)) (fun a => ?_) ?_ (fun _ => hidle) ?_ ?_ ?_, ?_⟩
  · rw [State.rejoin_vu, hxacc]; exact hm.not_accused hnm a
  · rw [State.rejoin_lu, hxlu]
    rcases s.online_iff.1 ho with hl | hl <;> rw [hl] <;> rintro (hc | hc) <;> cases hc
  · rw [hown]; exact fun hc => EntryState.noConfusion hc
  · rw [hown]; exact fun hc => EntryState.noConfusion hc
  · exact fun hc => absurd hidle hc
  · have hreset : ResetConsistent x.rejoin := by
      have hr := h.reset
      rw [← hxru] at hru
      rcases hru with hru | hru
      · refine hr.of_ru (hxset.trans (.rejoin x)) (by rw [State.online_of_lu x.rejoin_lu, State.online_of_lu hxlu]) ?_
        rw [State.rejoin_ru, hru, if_neg (by decide), hxru]
      · have hreq : x.ru.releaseRequested = false := Bool.eq_false_iff.2 fun hq => by
          rw [hxru] at hq hru
          rw [hr.release hq] at hru
          cases hru
        have hpulse : x.ru.pulse = 0 := by rw [hxru] at hru ⊢; exact hr.pulse (by rw [hru]; decide)
        refine ⟨?_, ?_, ?_, ?_, ?_, ?_, ?_⟩
        all_goals simp [State.rejoin_ru, hru, hreq, hpulse]
    exact hreset

theorem KeepsAll.leaveBody (s : State) : KeepsAll s s.leaveBody := by
  unfold State.leaveBody
  cases hst : s.own.state with
  | joining => exact (KeepsAll.depart (.inl hst)).trans (.answer _ _ _)
  | member => exact (KeepsAll.depart (.inr (by rw [hst]; rfl))).trans (.answer _ _ _)
  | suspect => exact (KeepsAll.depart (.inr (by rw [hst]; rfl))).trans (.answer _ _ _)
  | absent => exact .answer _ _ s
  | recovering => exact .answer _ _ s

/-- A member may be accused by its host (R44, R45). -/
theorem KeepsAll.accuse {s : State} {j : Addr} (hj : j ≠ s.ownAddr) (ho : s.own.state.isMember = true)
    (hm : (s.entry j).state.isMember = true) :
    KeepsAll s { s with vu := { s.vu with hostAccused := insertAddr j s.vu.hostAccused } } := by
  have hform : KeepsForm s { s with vu := { s.vu with hostAccused := insertAddr j s.vu.hostAccused } } :=
    .setMarks s _ _ _ _ _ _
  refine ⟨hform, fun h => ⟨hform.line h.line, ?_, h.reset.of_ru (.of_hp rfl) rfl rfl⟩⟩
  have hk := h.membership
  refine ⟨hk.offline, hk.timer, hk.resetIdle, hk.recovering, hk.blocked, hk.resetConfigured, fun a ha => ?_, hk.remaining⟩
  have ha' : inSet a (insertAddr j s.vu.hostAccused) = true := ha
  rw [inSet_insertAddr, Bool.or_eq_true, beq_iff_eq] at ha'
  rcases ha' with ha | rfl
  · exact hk.accused a ha
  · exact ⟨hj, hm, ho⟩

theorem KeepsAll.accuseBody (a : Byte) (s : State) : KeepsAll s (s.accuseBody a) := by
  unfold State.accuseBody
  cases addrOfByte a with
  | none => exact .answer _ _ s
  | some j =>
    refine .ite (fun _ => .answer _ _ s) (fun hj => .ite (fun hm => KeepsAll.trans ?_ (.answer _ _ _)) (fun _ => .answer _ _ s))
    rw [Bool.and_eq_true] at hm
    have haccused := KeepsAll.accuse hj hm.1 hm.2
    exact .ite (fun _ => haccused) (fun _ => haccused.trans (.testEvidence j _))

theorem KeepsAll.dropAccusation (j : Addr) (s : State) : KeepsAll s (s.dropAccusation j) := by
  refine KeepsForm.keepsAll (.setMarks s _ _ _ _ _ _) rfl (.of_hp rfl) rfl rfl (.inl rfl) (fun a ha => ⟨?_, id⟩)
  have ha' : inSet a (eraseAddr j s.vu.hostAccused) = true := ha
  rw [inSet_eraseAddr, Bool.and_eq_true] at ha'
  exact ha'.1

theorem KeepsAll.pardonBody (a : Byte) (s : State) : KeepsAll s (s.pardonBody a) := by
  unfold State.pardonBody
  cases addrOfByte a with
  | none => exact .answer _ _ s
  | some j => exact (KeepsAll.dropAccusation j s).trans (.answer _ _ _)

theorem KeepsAll.promptBody (n : Byte) (s : State) : KeepsAll s (s.promptBody n) := by
  have taken (h : s.pt.state ≠ .disarmed) : KeepsAll s (if n = s.pt.expected then
      { s with pt := { state := .running, remaining := s.promptPeriod, expected := n + 1, warn := false } }.answer .ok [n + 1]
      else s.answer .refusedSeq [s.pt.expected]) :=
    .ite (fun _ => KeepsAll.trans (.setTimer TimerState.noConfusion h TimerState.noConfusion) (.answer _ _ _)) (fun _ => .answer _ _ s)
  unfold State.promptBody
  cases hst : s.pt.state with
  | disarmed => exact .answer _ _ s
  | lapsed => exact .answer _ _ s
  | running => exact taken (by rw [hst]; decide)
  | warned => exact taken (by rw [hst]; decide)

theorem KeepsAll.publishBody (w : Word16) (s : State) : KeepsAll s (s.publishBody w) := by
  have worded : KeepsAll s { s with cm := { s.cm with service := w } } := .of_blocks rfl rfl (.of_hp rfl) (fun _ h => h) rfl rfl
  exact worded.trans (.answer _ _ _)

theorem KeepsAll.readEventBody (s : State) : KeepsAll s s.readEventBody := by
  unfold State.readEventBody
  cases s.hp.queue with
  | nil => exact .answer _ _ s
  | cons r rest => exact .answerWith _ _ _ s

theorem KeepsAll.readEntryBody (s : State) : KeepsAll s s.readEntryBody := by
  unfold State.readEntryBody
  cases s.hp.snapshot with
  | none => exact .answer _ _ s
  | some c => exact .answerWith _ _ _ s

/-- The copy of a table that has its form has it too (R164). -/
theorem KeepsAll.copyTable {s : State} {h : HostPort} (ha : h.address = s.hp.address) (hc : h.config = s.hp.config)
    (hd : h.digest = s.hp.digest) (hs : ∀ c, h.snapshot = some c → c.table = s.vu.table) : KeepsAll s { s with hp := h } := by
  have hset : SameSetup s { s with hp := h } := ⟨ha, hc, hd⟩
  have hown : State.own { s with hp := h } = s.own := State.own_of rfl ha
  refine KeepsForm.keepsAll ⟨fun hl => hl.of_lu hset rfl, fun _ ht => ⟨ht.entries, by rw [hown]; exact ht.own, fun c hcopy a => ?_⟩,
    fun hv => hv.of_voters (.of_vu rfl) id rfl rfl ha⟩ rfl hset rfl rfl (.inl (by rw [hown])) (fun _ h => ⟨h, id⟩)
  have htable := hs c hcopy
  simp only [htable]
  exact ht.entries a

theorem KeepsAll.snapshotBody (s : State) : KeepsAll s s.snapshotBody := by
  unfold State.snapshotBody
  cases hs : s.hp.snapshot with
  | some c => exact .answer _ _ s
  | none =>
    refine KeepsAll.trans (.copyTable ?_ ?_ ?_ ?_) (.answer _ _ _)
    exacts [rfl, rfl, rfl, fun c hc => by rw [← Option.some.inj hc]]

theorem KeepsAll.discardBody (s : State) : KeepsAll s s.discardBody := by
  have freed : KeepsAll s { s with hp := { s.hp with snapshot := none, cursor := 0 } } :=
    .of_blocks rfl rfl ⟨rfl, rfl, rfl⟩ (fun _ h => absurd h.symm (Option.some_ne_none _)) rfl rfl
  exact freed.trans (.answer _ _ _)

theorem KeepsAll.runHostCommand (c : HostCommand) (s : State) : KeepsAll s (s.runHostCommand c) := by
  cases c with
  | status => exact .answer _ _ s
  | configure r => exact .configureBody r s
  | restart => exact .restartBody s
  | join => exact .ifConfigured (.joinBody s)
  | leave => exact .ifConfigured (.leaveBody s)
  | accuse a => exact .ifConfigured (.accuseBody a s)
  | pardon a => exact .ifConfigured (.pardonBody a s)
  | prompt n => exact .ifConfigured (.promptBody n s)
  | publish w => exact .ifConfigured (.publishBody w s)
  | snapshot => exact .ifConfigured (.snapshotBody s)
  | readEntry => exact .ifConfigured (.readEntryBody s)
  | discardSnapshot => exact .ifConfigured (.discardBody s)
  | readEvent => exact .ifConfigured (.readEventBody s)

theorem KeepsAll.takeFrameBits (sdi : List Bool) (s : State) : KeepsAll s (s.takeFrameBits sdi) := by
  unfold State.takeFrameBits State.takeFrameBytes
  cases checkFrame (bytesOfBits sdi) with
  | incomplete => exact .refl s
  | badCheck => exact .answer _ _ s
  | badCommand => exact .answer _ _ s
  | good c => exact .runHostCommand c s

/-- Whole delivery leaves a copy as it is or frees the buffer (R165). -/
theorem HostPort.advanceCursor_snapshot_some {h : HostPort} {c : Snapshot} (hc : h.advanceCursor.snapshot = some c) :
    h.snapshot = some c := by
  unfold HostPort.advanceCursor at hc
  split at hc
  · exact hc
  · cases hc

theorem KeepsAll.deliver (s : State) : KeepsAll s s.deliver := by
  refine .ite (fun _ => ?_) (fun _ => .refl s)
  cases s.hp.advance with
  | none => exact .of_blocks rfl rfl ⟨rfl, rfl, rfl⟩ (fun _ h => h) rfl rfl
  | some adv =>
    cases adv with
    | event => exact .of_blocks rfl rfl ⟨by simp, by simp, by simp⟩ (fun _ h => by simpa using h) rfl rfl
    | entry =>
      exact .of_blocks rfl rfl ⟨by simp, by simp, by simp⟩ (fun _ h => HostPort.advanceCursor_snapshot_some h) rfl rfl

/-! ### Time -/

theorem KeepsAll.count (s : State) : KeepsAll s s.count := by
  have hset : SameSetup s s.count := ⟨rfl, rfl, rfl⟩
  have hline (h : LineConsistent s) : LineConsistent s.count := by
    refine ⟨h.configured, h.digest, h.record, h.round, ?_, ?_, h.waiting, ?_, ?_⟩
    · exact (by simp [State.count, LineUnit.count] : s.count.lu.roundTimer.isSome = true ↔ s.lu.roundTimer.isSome = true).trans h.roundTimer
    · exact (by simp [State.count, LineUnit.count] : s.count.lu.listenWindow.isSome = true ↔ s.lu.listenWindow.isSome = true).trans
        h.listenWindow
    · have : s.count.lu.driving = s.lu.driving.afterMillisecond := rfl
      rw [this]
      intro hd
      refine h.driving ?_
      revert hd
      cases s.lu.driving <;> simp [Driving.afterMillisecond]
    · intro hoff
      have : s.count.lu.driving = s.lu.driving.afterMillisecond := rfl
      rw [this, h.silent hoff]
      rfl
  refine ⟨⟨hline, fun _ h => h.of_entries (fun _ h => h) (fun _ h => h) id,
    fun h => ⟨h.voterCount, h.tally, h.quorum, h.oneSide, h.notOwn⟩⟩, fun h => ⟨hline h.line, ?_, ?_⟩⟩
  · have hm := h.membership
    have hpt : s.count.pt.state = s.pt.state := by
      simp only [State.count, PromptTimer.count]; split <;> rfl
    have hru : s.count.ru.state = s.ru.state := by
      simp only [State.count, ResetUnit.count]; split <;> rfl
    refine ⟨hm.offline, by rw [hpt]; exact hm.timer, by rw [hru]; exact hm.resetIdle, by rw [hru]; exact hm.recovering,
      by rw [hru]; exact hm.blocked, by rw [hru]; exact hm.resetConfigured, hm.accused, ?_⟩
    rw [hpt]
    intro hd
    have := hm.remaining hd
    simp only [State.count, PromptTimer.count]
    split
    · simp [this]
    · simp [this]
    · exact this
    · exact this
  · have hr := h.reset
    have hcount : s.count.ru.state = s.ru.state ∧ s.count.ru.attempt = s.ru.attempt ∧ s.count.ru.recovery = s.ru.recovery ∧
        s.count.ru.releaseRequested = s.ru.releaseRequested ∧ (s.ru.state ≠ .pulsing → s.count.ru.pulse = s.ru.pulse) := by
      simp only [State.count, ResetUnit.count]
      split
      · next hp => exact ⟨rfl, rfl, rfl, rfl, fun hn => absurd hp hn⟩
      all_goals exact ⟨rfl, rfl, rfl, rfl, fun _ => rfl⟩
    obtain ⟨h1, h2, h3, h4, h5⟩ := hcount
    refine ⟨by rw [h1, h2]; exact hr.idle, by rw [h1, h2, hset.resetLimit]; exact hr.attempt,
      by rw [h1, h2, hset.resetLimit]; exact hr.held, ?_, by rw [h1, h3]; exact hr.recovery, by rw [h1, h4]; exact hr.release,
      by rw [h4]; exact hr.releaseOnline⟩
    rw [h1]
    exact fun hn => by rw [h5 hn]; exact hr.pulse hn

theorem KeepsAll.runLocal (s : State) : KeepsAll s s.runLocal := by
  have h1 : KeepsAll s (if s.pt.state = .running ∧ s.pt.remaining ≤ s.warningLead then s.warnTimer
      else if s.pt.state = .warned ∧ s.pt.remaining = 0 then s.lapseTimer else s) :=
    .ite (fun _ => .warnTimer s) (fun _ => .ite (fun _ => .lapseTimer s) (fun _ => .refl s))
  exact .ite (fun _ => h1.trans (.endPulse _)) (fun _ => h1)

theorem KeepsAll.runLine (s : State) : KeepsAll s s.runLine :=
  .ite (fun _ => .expireRoundTimer s) (fun _ => .ite (fun _ => .expireListenWindow s) (fun _ => .ite (fun _ => .releaseLine s) (fun _ => .refl s)))

theorem KeepsAll.idle (s : State) : KeepsAll s s.idle :=
  (KeepsAll.count s).trans (.ite (fun _ => (KeepsAll.runLine _).trans (.runLocal _)) (fun _ => (KeepsAll.runLocal _).trans (.runLine _)))

/-! ### Every step -/

theorem KeepsAll.externalReset (b : Bool) (s : State) : ∃ t, exec (.externalHostReset b) s = .next t ∧ KeepsAll s t := by
  refine ⟨_, rfl, .ite (fun _ => ?_) (fun _ => .refl s)⟩
  have latched : KeepsAll s { s with ru := { s.ru with rstLatched := true } } := .setFlags rfl rfl rfl rfl .inl
  refine .ite (fun _ => ?_) (fun _ => latched)
  have posted := latched.trans (.post .hostResetSeen _)
  generalize State.post .hostResetSeen { s with ru := { s.ru with rstLatched := true } } = x at posted ⊢
  refine posted.trans ?_
  dsimp only
  cases hst : x.own.state with
  | joining => exact .depart (.inl hst)
  | member => exact .depart (.inr (by rw [hst]; rfl))
  | suspect => exact .depart (.inr (by rw [hst]; rfl))
  | absent => exact .refl x
  | recovering => exact .refl x

theorem KeepsAll.mclrAssertion (b : Bool) (s : State) : ∃ t, exec (.mclrAssertion b) s = .next t ∧ KeepsAll s t := by
  refine ⟨_, rfl, .ite (fun _ => ?_) (fun _ => .refl s)⟩
  have taken : KeepsAll s { s with ru := { s.ru with mclrReady := false } } := .setFlags rfl rfl rfl rfl .inl
  refine .ite (fun hh => ?_) (fun _ => taken)
  have hheld : s.ru.state = .held := by
    rw [Bool.and_eq_true, beq_iff_eq] at hh; exact hh.2
  exact .ite (fun ho => .setFlags rfl rfl rfl rfl (fun _ => .inr ⟨hheld, ho⟩)) (fun _ => taken.trans (.releaseHost hheld))

/-- Every command answers a next state that meets the invariants its state met. -/
theorem exec_keepsAll (c : Instr) (s : State) : ∃ t, exec c s = .next t ∧ KeepsAll s t := by
  cases c with
  | powerOn straps levels rstsense => exact ⟨_, rfl, .of_fresh rfl rfl rfl rfl rfl rfl rfl⟩
  | ncsAssert =>
    exact ⟨_, rfl, .ite (fun _ => .of_blocks rfl rfl ⟨rfl, rfl, rfl⟩ (fun _ h => h) rfl rfl) (fun _ => .refl s)⟩
  | ncsRelease => exact ⟨_, rfl, .of_blocks rfl rfl ⟨rfl, rfl, rfl⟩ (fun _ h => h) rfl rfl⟩
  | badCommandFrame sdi => exact ⟨_, rfl, .takeIn (.takeFrameBits sdi s)⟩
  | responseDelivered => exact ⟨_, rfl, .deliver s⟩
  | configure record => exact ⟨_, rfl, .takeIn (.configureBody record s)⟩
  | status => exact ⟨_, rfl, .takeIn (.answer _ _ s)⟩
  | restart => exact ⟨_, rfl, .takeIn (.restartBody s)⟩
  | join => exact ⟨_, rfl, .takeIn (.ifConfigured (.joinBody s))⟩
  | leave => exact ⟨_, rfl, .takeIn (.ifConfigured (.leaveBody s))⟩
  | accuse address => exact ⟨_, rfl, .takeIn (.ifConfigured (.accuseBody address s))⟩
  | pardon address => exact ⟨_, rfl, .takeIn (.ifConfigured (.pardonBody address s))⟩
  | prompt sequence => exact ⟨_, rfl, .takeIn (.ifConfigured (.promptBody sequence s))⟩
  | publish word => exact ⟨_, rfl, .takeIn (.ifConfigured (.publishBody word s))⟩
  | snapshot => exact ⟨_, rfl, .takeIn (.ifConfigured (.snapshotBody s))⟩
  | readEntry => exact ⟨_, rfl, .takeIn (.ifConfigured (.readEntryBody s))⟩
  | discardSnapshot => exact ⟨_, rfl, .takeIn (.ifConfigured (.discardBody s))⟩
  | readEvent => exact ⟨_, rfl, .takeIn (.ifConfigured (.readEventBody s))⟩
  | roundMark => exact ⟨_, rfl, .takeMark s⟩
  | roundTimerExpiry => exact ⟨_, rfl, .expireRoundTimer s⟩
  | listenWindowExpiry => exact ⟨_, rfl, .expireListenWindow s⟩
  | ownSlotStart => exact ⟨_, rfl, .startOwnSlot s⟩
  | ownSlotEnd clean => exact ⟨_, rfl, .endOwnSlot clean s⟩
  | slotClose slot reading => exact ⟨_, rfl, .closeSlot slot _ s⟩
  | announceFrame slot frame => exact ⟨_, rfl, .closeSlot slot _ s⟩
  | joinFrame slot frame => exact ⟨_, rfl, .closeSlot slot _ s⟩
  | leaveFrame slot frame => exact ⟨_, rfl, .closeSlot slot _ s⟩
  | verdictFieldStart => exact ⟨_, rfl, .startField s⟩
  | roundEnd condemn clear => exact ⟨_, rfl, .endRound condemn clear s⟩
  | collision => exact ⟨_, rfl, .takeCollision s⟩
  | lineStuck => exact ⟨_, rfl, .stickLine s⟩
  | lineReleased => exact ⟨_, rfl, .releaseLine s⟩
  | promptWarning => exact ⟨_, rfl, .warnTimer s⟩
  | promptLapsed => exact ⟨_, rfl, .lapseTimer s⟩
  | pulseEnd => exact ⟨_, rfl, .endPulse s⟩
  | pulseConfirmed => exact ⟨_, rfl, .ite (fun _ => .setFlags rfl rfl rfl rfl .inl) (fun _ => .refl s)⟩
  | externalHostReset begunInIdle => exact KeepsAll.externalReset begunInIdle s
  | mclrAssertion begunInHeld => exact KeepsAll.mclrAssertion begunInHeld s
  | recoveryWindowEnd =>
    refine ⟨_, rfl, .ite (fun h => ?_) (fun _ => .refl s)⟩
    simp only [State.windowDue, Bool.and_eq_true, beq_iff_eq] at h
    exact .endWindow h.1 h.2.1
  | inputChange input level =>
    have changed : KeepsAll s { s with cm := { s.cm with levels := s.cm.levels ^^^ BitVec.twoPow 4 input.val } } :=
      .of_blocks rfl rfl (.of_hp rfl) (fun _ h => h) rfl rfl
    exact ⟨_, rfl, .ite (fun _ => .refl s) (fun _ => .ite (fun _ => changed.trans (.post _ _)) (fun _ => changed))⟩
  | turnaroundEnd =>
    exact ⟨_, rfl, .ite (fun _ => .of_blocks rfl rfl ⟨rfl, rfl, rfl⟩ (fun _ h => h) rfl rfl) (fun _ => .refl s)⟩
  | releaseMeasurementRestart => exact ⟨_, rfl, .restartMeasurement s⟩
  | mclrRelease => exact ⟨_, rfl, .setFlags rfl rfl rfl rfl .inl⟩
  | rstsenseRelease => exact ⟨_, rfl, .setFlags rfl rfl rfl rfl .inl⟩

/-- Every step keeps the invariants of the line, the table, the votes and the part. -/
theorem step_keepsAll {s t : State} (h : step s = .next t) : KeepsAll s t := by
  unfold step at h
  cases hq : s.pending with
  | nil =>
    rw [hq] at h
    rw [← Host.Outcome.next.inj h]
    exact .idle s
  | cons c rest =>
    rw [hq] at h
    have dequeued : KeepsAll s { s with pending := rest } := .of_blocks rfl rfl (.of_hp rfl) (fun _ h => h) rfl rfl
    obtain ⟨u, hu, hk⟩ := exec_keepsAll c { s with pending := rest }
    rw [← Host.Outcome.next.inj (hu.symm.trans h)]
    exact dequeued.trans hk

/-- Settles O9: each shared operation keeps the table (KeepsForm), and every step is made of them. -/
theorem stepKeepsTable : Obligations.StepKeepsTable := fun _ _ ht hl h => (step_keepsAll h).table hl ht

/-- Settles O11: each shared operation keeps the agreement (KeepsAll), where an own entry that leaves the members takes its timer, its Reset Unit
and its accusations with it. -/
theorem stepKeepsPart : Obligations.StepKeepsPart := fun _ _ hp h => (step_keepsAll h).part hp

/-- Settles O12: the voters change at a round beginning alone, and only voters are counted and driven against. -/
theorem stepKeepsVotes : Obligations.StepKeepsVotes := fun _ _ hv h => (step_keepsAll h).votes hv

/-! ### Records for the statements of the rounds and the slots -/

theorem State.online_of {s : State} (h : s.lu.state = .synced ∨ s.lu.state = .active) : s.online = true := s.online_iff.2 h

/-- A change made to an entry that was just put in the table. -/
theorem State.modifyEntry_setEntry (u : State) (k : Addr) (x : Entry) (g : Entry → Entry) :
    (u.setEntry k x).modifyEntry k g = u.setEntry k (g x) := by
  rw [State.modifyEntry, State.entry_setEntry, if_pos rfl, State.setEntry_setEntry]

/-- An entry that was just put in the table moves on: one that is no member afterwards loses its accusation (R44). -/
theorem State.moveEntry_setEntry (u : State) (k : Addr) (x : Entry) (g : Entry → Entry) :
    (u.setEntry k x).moveEntry k g = { u with vu := { (u.setEntry k (g x)).vu with
      hostAccused := if (g x).state.isMember then u.vu.hostAccused else eraseAddr k u.vu.hostAccused } } := by
  rw [State.moveEntry, State.modifyEntry_setEntry, State.entry_setEntry, if_pos rfl]
  split <;> rfl

/-- Posts reach the queue alone, and see the round number and the Host Port alone. -/
theorem State.postAll_frame {x y : State} (hh : x.hp = y.hp) (hl : x.lu.roundNumber = y.lu.roundNumber) (es : List Event) :
    x.postAll es = { x with hp := (y.postAll es).hp } := by
  rw [State.postAll_eq, State.postAll_eq, hh, hl]

/-- An entry put in the table among posts, as one record. -/
theorem State.setEntry_postAll (u : State) (es : List Event) (k : Addr) (x : Entry) :
    (u.postAll es).setEntry k x = { u with vu := (u.setEntry k x).vu, hp := (u.postAll es).hp } := by
  rw [State.postAll_eq]
  rfl

theorem State.postAll_append (es fs : List Event) (s : State) : s.postAll (es ++ fs) = (s.postAll es).postAll fs :=
  List.foldl_append

theorem State.postAll_eventIf (p : Prop) [Decidable p] (e : Event) (s : State) :
    s.postAll (eventIf p e) = if p then s.post e else s := by
  unfold eventIf
  split <;> rfl

/-- Posts after others, among changes of the View Unit. -/
theorem State.postAll_postAll (u : State) (v : ViewUnit) (es fs : List Event) :
    State.postAll fs { u with vu := v, hp := (u.postAll es).hp } = { u with vu := v, hp := (u.postAll (es ++ fs)).hp } := by
  rw [State.postAll_append, State.postAll_eq es u, State.postAll_eq, State.postAll_eq]

/-- CONDITION and SERVICE as a list of posts (R18). -/
theorem State.postChanges_eq (k : Addr) (old : Entry) (f : FrameBody) (s : State) : s.postChanges k old f =
    s.postAll (eventIf (old.flags ≠ f.flags) (.condition k f.flags) ++ eventIf (old.service ≠ f.service) (.service k f.service)) := by
  rw [State.postAll_append, State.postAll_eventIf, State.postAll_eventIf]
  rfl

/-! ### A round begins -/

/-- The Line Unit and the View Unit at a round beginning, `voters` being the members (R5, R75). -/
theorem State.startRound_eq {s : State} {voters : AddrSet} (hv : ∀ a : Addr, inSet a voters = (s.entry a).state.isMember)
    (d : Driving) (fresh : Bool) : (s.startRound d fresh).formVoters = s.roundBegun d fresh voters := by
  have hset : setWhere (fun a => ((s.startRound d fresh).entry a).state.isMember) = voters := setWhere_eq hv
  have hann : s.announces = decide (s.own.state ≠ .absent ∨ s.vu.leavePending = true ∨ s.ru.state = .held) := by
    rw [Bool.eq_iff_iff]
    simp [State.announces, or_assoc]
  unfold State.formVoters State.roundBegun
  rw [hset]
  simp only [State.startRound, hann, decide_eq_true_eq]
  rfl

/-- A recovery round that is not the last is counted (R113). -/
theorem State.countRecoveryRound_eq {s : State} (h : s.ru.state = .waiting → 1 < s.ru.recovery) : s.countRecoveryRound =
    { s with ru := if s.ru.state = .waiting then { s.ru with recovery := s.ru.recovery - 1 } else s.ru } := by
  unfold State.countRecoveryRound
  split
  · next hw => rw [if_neg (by have := h hw; omega)]
  · rfl

/-- Settles O34, by the two parts of a round beginning: the record of the new round, then the count of recovery rounds. -/
theorem roundBegins : Obligations.RoundBegins := by
  intro s voters hl hv
  have ho := State.online_of hl
  refine ⟨fun hp => ⟨?_, ?_⟩, fun hp hw => ?_⟩
  · refine congrArg Host.Outcome.next ?_
    rw [State.takeMark, if_pos ho, if_neg hp]
  · refine congrArg Host.Outcome.next ?_
    rw [State.expireRoundTimer, if_neg (fun h => hp h.2)]
  · have begun (d : Driving) : s.beginRound d = { s.roundBegun d false voters with
        ru := if s.ru.state = .waiting then { s.ru with recovery := s.ru.recovery - 1 } else s.ru } := by
      rw [State.beginRound, State.startRound_eq hv, State.countRecoveryRound_eq (by exact hw)]
      rfl
    refine ⟨congrArg Host.Outcome.next ?_, congrArg Host.Outcome.next ?_⟩
    · rw [State.takeMark, if_pos ho, if_pos hp, begun]
    · rw [State.expireRoundTimer, if_pos ⟨ho, hp⟩, begun]

/-! ### The own slot -/

/-- The report of a frame that went out whole (R2, R63, R80). -/
theorem State.reportWhole_eq {s : State} {fr : OwnFrame} (h : s.lu.ownFrame = some fr) : s.reportWhole = { s with
    lu := { s.lu with ownWhole := true }
    vu := { (s.setEntry s.hp.address { s.own with lastHeard := some fr.body.round }).vu with
      leavePending := if fr.kind = .leave then false else s.vu.leavePending } } := by
  unfold State.reportWhole
  rw [h]
  dsimp only
  split <;> rfl

/-- Settles O39, by the branches of the own slot's end. -/
theorem ownSlotEnds : Obligations.OwnSlotEnds := by
  refine fun s => ⟨fun hn clean => ?_, fun hl hp => ?_⟩
  · refine congrArg Host.Outcome.next ?_
    rw [State.endOwnSlot, if_neg (fun h => hn ⟨s.online_iff.1 h.1, h.2⟩)]
  · refine ⟨fun fr hd hf => congrArg Host.Outcome.next ?_, fun hd => congrArg Host.Outcome.next ?_, fun hd clean => congrArg Host.Outcome.next ?_⟩
    · rw [State.endOwnSlot, if_pos ⟨State.online_of hl, hp⟩, if_pos hd, if_pos rfl, State.reportWhole_eq (by exact hf)]
      rfl
    · rw [State.endOwnSlot, if_pos ⟨State.online_of hl, hp⟩, if_pos hd, if_neg (by decide)]
      rfl
    · rw [State.endOwnSlot, if_pos ⟨State.online_of hl, hp⟩, if_neg hd]
      rfl

/-! ### Frames that are not in step -/

/-- A slot that cannot close is not open. -/
theorem State.slotReady_iff (s : State) (k : Addr) : s.slotReady k = true ↔ SlotOpen s k := by
  refine ⟨fun h => ?_, SlotOpen.slotReady⟩
  simp only [State.slotReady, Bool.and_eq_true, bne_iff_ne] at h
  obtain ⟨⟨ho, hk⟩, hpos⟩ := h
  refine ⟨s.online_iff.1 ho, hk, ?_⟩
  cases hp : s.lu.pos with
  | slots n =>
    rw [hp] at hpos
    simp only [Bool.and_eq_true, Bool.or_eq_true, decide_eq_true_eq] at hpos
    exact ⟨n, rfl, hpos.1, hpos.2⟩
  | outside => rw [hp] at hpos; exact absurd hpos Bool.noConfusion
  | ownSlot => rw [hp] at hpos; exact absurd hpos Bool.noConfusion
  | verdict => rw [hp] at hpos; exact absurd hpos Bool.noConfusion
  | rest => rw [hp] at hpos; exact absurd hpos Bool.noConfusion

theorem State.closeSlot_of_not_open {s : State} {k : Addr} (h : ¬ SlotOpen s k) (r : Reception) : s.closeSlot k r = s := by
  rw [State.closeSlot, if_neg (fun hr => h ((s.slotReady_iff k).1 hr))]

/-- The three frame commands close their slot with a frame. -/
theorem exec_frame {c : Instr} {k : Addr} {f : FrameBody} (h : c ∈ [Instr.announceFrame k f, .joinFrame k f, .leaveFrame k f]) :
    ∃ kind, ∀ s, exec c s = .next (s.closeSlot k (.frame kind f)) := by
  simp only [List.mem_cons, List.not_mem_nil, or_false] at h
  rcases h with rfl | rfl | rfl
  · exact ⟨.announce, fun _ => rfl⟩
  · exact ⟨.join, fun _ => rfl⟩
  · exact ⟨.leave, fun _ => rfl⟩

theorem LineUnit.adoptRound_of_closed {l : LineUnit} (h : l.adoptOpen = false) (n : Word16) : l.adoptRound n = l := by
  rw [LineUnit.adoptRound, if_neg (by rw [h]; decide)]

/-- What a FOREIGN frame does at the View Unit (R19, R54). -/
theorem State.applyForeign_eq (k : Addr) (d : Word16) {s : State} (hk : k ≠ s.hp.address) : s.applyForeign k d = { s with
    vu := { (s.setEntry k { s.entry k with mismatchSeen := true }).vu with
      foreignMark := if s.own.state = .joining then true else s.vu.foreignMark }
    hp := if (s.entry k).mismatchSeen = true then s.hp else (s.post (.profileMismatch k d)).hp } := by
  have hseen (h : (s.entry k).mismatchSeen = true) : s.setEntry k { s.entry k with mismatchSeen := true } = s := by
    have : { s.entry k with mismatchSeen := true } = s.entry k := by rw [← h]
    rw [this, State.setEntry_entry]
  have hown : ((s.modifyEntry k (fun e => { e with mismatchSeen := true })).post (.profileMismatch k d)).own = s.own := by
    rw [State.own_of (State.post_vu _ _) (State.post_address _ _), State.own_modifyEntry_peer hk]
  unfold State.applyForeign
  dsimp only
  by_cases hs : (s.entry k).mismatchSeen = true
  · simp only [hs, if_true, hseen hs]
    split <;> rfl
  · simp only [if_neg hs, hown]
    split <;> rfl

/-- Settles O41, by the order of R81's tests: the slot, the profile, the round number. -/
theorem foreignAndOutOfStepFrames : Obligations.ForeignAndOutOfStepFrames := by
  intro s k f c hc
  obtain ⟨kind, hexec⟩ := exec_frame hc
  refine ⟨fun hn => by rw [hexec, State.closeSlot_of_not_open hn], fun d hopen hd => ⟨fun hne => ?_, fun heq ha hr => ?_⟩⟩
  · have hforeign : s.hp.digest ≠ some f.digest := by rw [hd]; exact fun h => hne (Option.some.inj h)
    rw [hexec, State.closeSlot_eq hopen]
    refine congrArg Host.Outcome.next ?_
    dsimp only
    rw [State.takeFrame, if_pos hforeign, State.applyForeign_eq k f.digest (by exact hopen.peer)]
    rfl
  · rw [hexec, State.closeSlot_eq hopen]
    refine congrArg Host.Outcome.next ?_
    dsimp only
    rw [State.takeFrame, if_neg (by simp [hd, heq])]
    dsimp only
    rw [LineUnit.adoptRound_of_closed (by exact ha), if_pos (by exact hr)]
    rfl

/-! ### Frames in step -/

/-- The part once a frame in step has been counted and heard, before it is applied by its kind (R6, R82). -/
def State.frameHeard (s : State) (k : Addr) (f : FrameBody) : State :=
  ({ s with lu := s.lu.heard k f } : State).setEntry k (s.heardEntry k f)

theorem State.frameHeard_entry (s : State) (k : Addr) (f : FrameBody) : (s.frameHeard k f).entry k = s.heardEntry k f := by
  rw [State.frameHeard, State.entry_setEntry, if_pos rfl]

theorem State.frameHeard_own {s : State} {k : Addr} (hk : k ≠ s.hp.address) (f : FrameBody) : (s.frameHeard k f).own = s.own := by
  rw [State.own, State.frameHeard, State.entry_setEntry, if_neg (fun h => hk h.symm)]
  rfl

/-- A frame in step, its kind's own rules still to come (R6). -/
theorem State.closeSlot_heard {s : State} {k : Addr} {f : FrameBody} (h : InStep s k f) (kind : FrameKind) :
    s.closeSlot k (.frame kind f) =
      if s.own.state = .absent then (s.frameHeard k f).adoptFrame kind k f
      else
        match kind with
        | .announce => (s.frameHeard k f).applyAnnounce k f
        | .join => (s.frameHeard k f).applyJoin k f
        | .leave => (s.frameHeard k f).applyLeave k f := by
  have hown := State.frameHeard_own h.slot.peer f
  rw [State.closeSlot_frame h, ← hown]
  rfl

theorem exec_announceFrame {s : State} {k : Addr} {f : FrameBody} (h : InStep s k f) (ho : s.own.state ≠ .absent) :
    exec (.announceFrame k f) s = .next ((s.frameHeard k f).applyAnnounce k f) :=
  congrArg Host.Outcome.next ((State.closeSlot_heard h .announce).trans (if_neg ho))

theorem exec_joinFrame {s : State} {k : Addr} {f : FrameBody} (h : InStep s k f) (ho : s.own.state ≠ .absent) :
    exec (.joinFrame k f) s = .next ((s.frameHeard k f).applyJoin k f) :=
  congrArg Host.Outcome.next ((State.closeSlot_heard h .join).trans (if_neg ho))

theorem exec_leaveFrame {s : State} {k : Addr} {f : FrameBody} (h : InStep s k f) (ho : s.own.state ≠ .absent) :
    exec (.leaveFrame k f) s = .next ((s.frameHeard k f).applyLeave k f) :=
  congrArg Host.Outcome.next ((State.closeSlot_heard h .leave).trans (if_neg ho))

/-- The sender's entry is changed once more. -/
theorem State.frameHeard_modifyEntry (s : State) (k : Addr) (f : FrameBody) (g : Entry → Entry) : (s.frameHeard k f).modifyEntry k g =
    { s with lu := s.lu.heard k f, vu := (s.setEntry k (g (s.heardEntry k f))).vu } :=
  State.modifyEntry_setEntry _ k _ g

/-- The sender's entry ends as no member (R44). -/
theorem State.frameHeard_moveEntry {s : State} {k : Addr} {f : FrameBody} {g : Entry → Entry}
    (hm : (g (s.heardEntry k f)).state.isMember = false) : (s.frameHeard k f).moveEntry k g =
    { s with lu := s.lu.heard k f, vu := { (s.setEntry k (g (s.heardEntry k f))).vu with
      hostAccused := eraseAddr k s.vu.hostAccused } } := by
  rw [State.frameHeard, State.moveEntry_setEntry, if_neg (by rw [hm]; decide)]
  rfl

/-- A sender that nobody accuses leaves the accusations as they are. -/
theorem State.frameHeard_moveEntry_unaccused {s : State} {k : Addr} {f : FrameBody} {g : Entry → Entry}
    (hm : (g (s.heardEntry k f)).state.isMember = false) (ha : inSet k s.vu.hostAccused = false) : (s.frameHeard k f).moveEntry k g =
    { s with lu := s.lu.heard k f, vu := (s.setEntry k (g (s.heardEntry k f))).vu } := by
  rw [State.frameHeard_moveEntry hm, eraseAddr_of_not_inSet k _ ha]
  rfl

/-- An ABSENT entry stays as it is, its admission rounds remaining absent (R1). -/
theorem Entry.moveTo_absent_self {e : Entry} (h : e.state = .absent) : e.moveTo .absent = { e with admission := none } := by
  unfold Entry.moveTo
  simp [h]

/-- An entry that becomes ABSENT and records a frame (R4, R7). -/
theorem Entry.moveTo_absent_recorded (f : FrameBody) (e : Entry) : ((e.moveTo .absent).recordIncarnation f).report f =
    if e.state = .absent then { e.reported f with admission := none } else (e.reported f).gone := by
  split
  · next h =>
    rw [Entry.moveTo_absent_self h]
    rfl
  · next h =>
    rw [Entry.moveTo_absent_eq_gone h]
    rfl

/-- An entry that becomes JOINING and records a frame (R50, R56). -/
theorem Entry.startJoining_recorded (n : Nat) (f : FrameBody) (e : Entry) : ((e.startJoining n).recordIncarnation f).report f =
    { e.reported f with state := .joining, admission := some n } := by
  rw [Entry.startJoining, Entry.moveTo_of_ne (by decide)]
  rfl

/-- The incarnation check of a recorded incarnation (R14, R15). -/
theorem Entry.differs_of_some {e : Entry} {i : Byte} (h : e.incarnation = some i) (f : FrameBody) :
    e.differs f = (i != f.incarnation) := by
  rw [Entry.differs, h]

/-- A slot's sender is another station than the own. -/
theorem InStep.peer {s : State} {k : Addr} {f : FrameBody} (h : InStep s k f) : k ≠ s.hp.address := h.slot.peer

/-- Settles O43, by the two branches of R16: a stranger, or the held announcement. -/
theorem announceFromAbsentEntry : Obligations.AnnounceFromAbsentEntry := by
  intro s k f h ho ha
  have happly : (s.frameHeard k f).applyAnnounce k f = (s.frameHeard k f).announceFromAbsent k f := by
    have hst : ((s.frameHeard k f).entry k).state = .absent := by rw [State.frameHeard_entry]; exact ha
    rw [State.applyAnnounce, hst]
  refine ⟨fun hh => ?_, fun hh => ?_⟩
  · rw [exec_announceFrame h ho, happly, State.announceFromAbsent, if_neg hh, State.frameHeard_entry, State.frameHeard_modifyEntry]
    refine congrArg Host.Outcome.next ?_
    by_cases hr : (s.entry k).strangerReported = true
    · rw [if_pos (by exact hr), if_pos hr]
      rfl
    · rw [if_neg (by exact hr), if_neg hr]
      rfl
  · rw [exec_announceFrame h ho, happly, State.announceFromAbsent, if_pos hh, State.frameHeard_modifyEntry]
    rfl

/-- An ANNOUNCE frame that ends an entry's life does so in JOINING as in every later state (R14, R15, R117). -/
theorem State.applyAnnounce_ends {s : State} {k : Addr} {f : FrameBody} {i : Byte} (hs : (s.entry k).state ≠ .absent)
    (hi : (s.entry k).incarnation = some i) :
    (i ≠ f.incarnation → s.applyAnnounce k f = s.restartedEntry k f) ∧
    (i = f.incarnation → HostState.ofCode f.hostCode = .held → s.applyAnnounce k f = s.heldEntry k f) := by
  have hd := Entry.differs_of_some hi f
  have hpos (hne : i ≠ f.incarnation) : (s.entry k).differs f = true := by rw [hd]; simpa using hne
  have hneg (heq : i = f.incarnation) : ¬ (s.entry k).differs f = true := by rw [hd]; simpa using heq
  have fromMember : (i ≠ f.incarnation → s.announceFromMember k f = s.restartedEntry k f) ∧
      (i = f.incarnation → HostState.ofCode f.hostCode = .held → s.announceFromMember k f = s.heldEntry k f) :=
    ⟨fun hne => if_pos (hpos hne), fun heq hh => (if_neg (hneg heq)).trans (if_pos hh)⟩
  unfold State.applyAnnounce
  cases hst : (s.entry k).state with
  | absent => exact absurd hst hs
  | joining =>
    refine ⟨fun hne => if_pos (hpos hne), fun heq hh => ?_⟩
    dsimp only
    rw [State.announceFromJoining, if_neg (hneg heq), hh]
  | member => exact fromMember
  | suspect => exact fromMember
  | recovering => exact fromMember

/-- Settles O44: the life that ends is the same move to ABSENT in both cases, with what the frame gives recorded. -/
theorem restartedOrHeldEntryEnds : Obligations.RestartedOrHeldEntryEnds := by
  intro s k f i h ho hne hi
  have hends := State.applyAnnounce_ends (s := s.frameHeard k f) (k := k) (f := f) (i := i) (by rw [State.frameHeard_entry]; exact hne)
    (by rw [State.frameHeard_entry]; exact hi)
  have hgone : (s.heardEntry k f).moveTo .absent = (s.heardEntry k f).gone := Entry.moveTo_absent_eq_gone hne
  refine ⟨fun hdiff => ?_, fun heq hh => ?_⟩
  · rw [exec_announceFrame h ho, hends.1 hdiff, State.restartedEntry, State.frameHeard_entry,
      State.frameHeard_moveEntry, hgone]
    · have hold : (s.heardEntry k f).incarnation.getD 0 = i := by
        have : (s.heardEntry k f).incarnation = some i := hi
        rw [this]; rfl
      rw [hold]
      rfl
    · rw [hgone]; rfl
  · rw [exec_announceFrame h ho, hends.2 heq hh, State.heldEntry, State.frameHeard_moveEntry, hgone]
    · rfl
    · rw [hgone]; rfl

/-- Settles O48: one move to ABSENT, recorded, which an ABSENT entry has behind it. -/
theorem leaveFrameApplied : Obligations.LeaveFrameApplied := by
  intro s k f h ho
  have hmove := Entry.moveTo_absent_recorded f (s.heardEntry k f)
  refine ⟨fun hne => ?_, fun ha hadm hacc => ?_⟩
  · rw [if_neg (by exact hne)] at hmove
    rw [exec_leaveFrame h ho, State.applyLeave, State.frameHeard_entry, State.frameHeard_moveEntry, hmove]
    · refine congrArg Host.Outcome.next ?_
      dsimp only
      rw [if_neg (by exact hne)]
      rfl
    · rw [hmove]; rfl
  · rw [if_pos (by exact ha)] at hmove
    have hself : ({ (s.heardEntry k f).reported f with admission := none } : Entry) = (s.heardEntry k f).reported f := by
      rw [← hadm]; rfl
    have hnm : ((((s.heardEntry k f).moveTo .absent).recordIncarnation f).report f).state.isMember = false := by
      rw [hmove]
      show (s.entry k).state.isMember = false
      rw [ha]; rfl
    rw [exec_leaveFrame h ho, State.applyLeave, State.frameHeard_entry, State.frameHeard_moveEntry_unaccused, hmove, hself]
    · refine congrArg Host.Outcome.next ?_
      dsimp only
      rw [if_pos (by exact ha)]
    · exact hnm
    · exact hacc

/-! ### Admissions -/

/-- Evidence against another station, item by item (R23). -/
theorem State.evidence_iff (s : State) (j : Addr) : s.evidence j = true ↔ j ≠ s.hp.address ∧ s.own.state.isMember = true ∧
    (s.entry j).state.isMember = true ∧ (s.missLimit ≤ (s.entry j).missCount ∨ (s.entry j).hostState = .lapsed ∨
      (s.entry j).hostState = .fault ∨ inSet j s.vu.hostAccused = true) := by
  simp only [State.evidence, Bool.and_eq_true, Bool.or_eq_true, bne_iff_ne, decide_eq_true_eq, HostState.isFailing_iff, and_assoc, or_assoc]
  rfl

theorem State.own_setEntry_peer {s : State} {a : Addr} (ha : a ≠ s.hp.address) (e : Entry) : (s.setEntry a e).own = s.own :=
  State.own_modifyEntry_peer ha (fun _ => e)

/-- Evidence against a station whose entry was just put in the table (R23). -/
theorem State.evidence_setEntry {u : State} {k : Addr} (hk : k ≠ u.hp.address) (x : Entry) : (u.setEntry k x).evidence k = true ↔
    u.own.state.isMember = true ∧ x.state.isMember = true ∧ (u.missLimit ≤ x.missCount ∨ x.hostState = .lapsed ∨
      x.hostState = .fault ∨ inSet k u.vu.hostAccused = true) := by
  rw [State.evidence_iff, State.own_setEntry_peer hk, State.entry_setEntry, if_pos rfl]
  exact and_iff_right hk

/-- A MEMBER that was just put in the table becomes SUSPECT (R27). -/
theorem State.suspect_setEntry {x : Entry} (hx : x.state = .member) (u : State) (k : Addr) (c : SuspectCause) :
    (u.setEntry k x).suspect k c = (u.post (.suspected k c)).setEntry k { x with state := .suspect, admission := none } := by
  rw [State.suspect, State.entry_setEntry, if_pos rfl, if_pos hx, State.modifyEntry_setEntry, Entry.moveTo_of_ne (by decide)]
  rfl

/-- The admission of a peer completes: MEMBER with JOINED, and SUSPECT at once where its frame is evidence (R27, R57). -/
theorem State.admitPeer_eq {s : State} {k : Addr} {f : FrameBody} (hk : k ≠ s.hp.address) (ha : inSet k s.vu.hostAccused = false)
    (hl : 1 ≤ s.missLimit) {evidence : Prop} [Decidable evidence] (he : evidence ↔ s.own.state.isMember = true ∧
      (HostState.ofCode f.hostCode = .lapsed ∨ HostState.ofCode f.hostCode = .fault)) :
    (s.frameHeard k f).admitPeer k f = { s with
      lu := s.lu.heard k f
      vu := (s.setEntry k { (s.heardEntry k f).reported f with
        state := if evidence then .suspect else .member, admission := none }).vu
      hp := (State.postAll ([.joined k f.incarnation] ++ eventIf evidence (.suspected k .evidence))
        { s with lu := s.lu.heard k f }).hp } := by
  let u : State := { s with lu := s.lu.heard k f }
  let e : Entry := { (s.heardEntry k f).reported f with state := .member, admission := none }
  have hmember : (((s.heardEntry k f).moveTo .member).recordIncarnation f).report f = e := by
    rw [Entry.moveTo_of_ne (by decide)]
    rfl
  have hput : ((s.frameHeard k f).modifyEntry k (fun e => ((e.moveTo .member).recordIncarnation f).report f)).post
      (.joined k f.incarnation) = (u.post (.joined k f.incarnation)).setEntry k e := by
    rw [State.frameHeard_modifyEntry, hmember]
    rfl
  have hev : ((u.post (.joined k f.incarnation)).setEntry k e).evidence k = true ↔ evidence := by
    have hown : (u.post (.joined k f.incarnation)).own = s.own := State.own_of rfl (by simp [u])
    have hlim : (u.post (.joined k f.incarnation)).missLimit = s.missLimit := by simp [State.missLimit, State.cfg, u]
    have hmiss : ¬ s.missLimit ≤ e.missCount := Nat.not_le.2 hl
    have hacc : ¬ inSet k (u.post (.joined k f.incarnation)).vu.hostAccused = true := Bool.eq_false_iff.1 ha
    rw [State.evidence_setEntry (by simpa [u] using hk), hown, hlim, he]
    refine and_congr_right fun _ => ⟨fun h => ?_, fun h => ⟨rfl, .inr (h.imp_right .inl)⟩⟩
    exact (h.2.resolve_left hmiss).imp_right fun h => h.resolve_right hacc
  rw [State.admitPeer, hput, State.testEvidence, State.suspect_setEntry rfl, State.postAll_append, State.postAll_eventIf]
  by_cases hc : evidence
  · rw [if_pos (hev.2 hc), if_pos hc, if_pos hc]
    rfl
  · rw [if_neg (fun h => hc (hev.1 h)), if_neg hc, if_neg hc]
    rfl

/-- Settles O45: RESETTING ends the admission, every other state but HELD completes it. -/
theorem joinerAnnounces : Obligations.JoinerAnnounces := by
  intro s k f h ho hj hi ha hl
  have happly : (s.frameHeard k f).applyAnnounce k f = (s.frameHeard k f).announceFromJoining k f := by
    have hst : ((s.frameHeard k f).entry k).state = .joining := by rw [State.frameHeard_entry]; exact hj
    rw [State.applyAnnounce, hst]
  have hsame : ¬ ((s.frameHeard k f).entry k).differs f = true := by
    rw [State.frameHeard_entry, Entry.differs_of_some (e := s.heardEntry k f) hi]; simp
  refine ⟨fun hr => ?_, fun hr hh => ?_⟩
  · have hr' : HostState.ofCode f.hostCode = .resetting := hr
    have hmove := Entry.moveTo_absent_recorded f (s.heardEntry k f)
    rw [if_neg (by show (s.entry k).state ≠ .absent; rw [hj]; decide)] at hmove
    rw [exec_announceFrame h ho, happly, State.announceFromJoining, if_neg hsame, hr']
    dsimp only
    rw [State.frameHeard_moveEntry_unaccused, hmove]
    · rw [hmove]; rfl
    · exact ha
  · have hadmit : (s.frameHeard k f).announceFromJoining k f = (s.frameHeard k f).admitPeer k f := by
      have hr' : HostState.ofCode f.hostCode ≠ .resetting := hr
      have hh' : HostState.ofCode f.hostCode ≠ .held := hh
      rw [State.announceFromJoining, if_neg hsame]
      cases hc : HostState.ofCode f.hostCode with
      | resetting => exact absurd hc hr'
      | held => exact absurd hc hh'
      | dormant => rfl
      | running => rfl
      | warned => rfl
      | lapsed => rfl
      | fault => rfl
    rw [exec_announceFrame h ho, happly, hadmit]
    exact congrArg Host.Outcome.next (State.admitPeer_eq h.peer ha hl Iff.rfl)

/-- An admission that begins with a frame (R56). -/
theorem State.beginAdmission_eq {s : State} {k : Addr} {f : FrameBody} (ha : inSet k s.vu.hostAccused = false) :
    (s.frameHeard k f).beginAdmission k f = { s with
      lu := s.lu.heard k f
      vu := (s.setEntry k { (s.heardEntry k f).reported f with state := .joining, admission := some s.admitRounds }).vu } := by
  have hstart := Entry.startJoining_recorded s.admitRounds f (s.heardEntry k f)
  have hnm : ((((s.heardEntry k f).startJoining s.admitRounds).recordIncarnation f).report f).state.isMember = false := by rw [hstart]; rfl
  have hmove := State.frameHeard_moveEntry_unaccused (s := s) (k := k) (f := f)
    (g := fun e => ((e.startJoining s.admitRounds).recordIncarnation f).report f) hnm ha
  rw [hstart] at hmove
  exact hmove

/-- The posts that compare a frame in step with the entry before it, among other changes of the View Unit (R18). -/
theorem State.postChanges_heard {s x : State} {k : Addr} {f : FrameBody} {v : ViewUnit}
    (hx : x = { s with lu := s.lu.heard k f, vu := v }) : x.postChanges k (s.heardEntry k f) f = { s with
      lu := s.lu.heard k f
      vu := v
      hp := (State.postAll (eventIf ((s.entry k).flags ≠ f.flags) (.condition k f.flags) ++
        eventIf ((s.entry k).service ≠ f.service) (.service k f.service)) { s with lu := s.lu.heard k f }).hp } := by
  rw [hx, State.postChanges_eq]
  exact State.postAll_frame (x := { s with lu := s.lu.heard k f, vu := v }) (y := { s with lu := s.lu.heard k f }) rfl rfl _

/-- Settles O47, along the state of the entry. -/
theorem joinFrameApplied : Obligations.JoinFrameApplied := by
  intro s k f h ho
  have hentry := s.frameHeard_entry k f
  refine ⟨fun hst ha => ?_, fun n hj hi hn => ?_, fun i hst hi => ?_⟩
  · rw [exec_joinFrame h ho]
    refine congrArg Host.Outcome.next ?_
    have hbegun := State.beginAdmission_eq (s := s) (k := k) (f := f) ha
    have hchanged := State.postChanges_heard hbegun
    rw [State.applyJoin, hentry]
    rcases hst with hst | hst | ⟨hst, i, hi, hne⟩
    · have hst' : (s.heardEntry k f).state = .absent := hst
      rw [hst', if_pos hst]
      exact hbegun
    · have hst' : (s.heardEntry k f).state = .recovering := hst
      have hne : ¬ (s.entry k).state = .absent := by rw [hst]; decide
      rw [hst', if_neg hne]
      exact hchanged
    · have hst' : (s.heardEntry k f).state = .joining := hst
      have hna : ¬ (s.entry k).state = .absent := by rw [hst]; decide
      have hd : (s.heardEntry k f).differs f = true := by
        rw [Entry.differs_of_some (e := s.heardEntry k f) hi]; simpa using hne
      rw [hst', if_neg hna]
      exact (if_pos hd).trans hchanged
  · have hcount : (s.frameHeard k f).applyJoin k f = (s.frameHeard k f).countJoin k f := by
      have hst' : ((s.frameHeard k f).entry k).state = .joining := by rw [hentry]; exact hj
      rw [State.applyJoin, hst']
      dsimp only
      rw [if_neg (by rw [hentry, Entry.differs_of_some (e := s.heardEntry k f) hi]; simp)]
    have hleft : ((s.frameHeard k f).entry k).admission.getD 0 = n := by
      rw [hentry]
      show (s.entry k).admission.getD 0 = n
      rw [hn]; rfl
    refine ⟨fun hlt => ?_, fun hone ha hl => ?_⟩
    · rw [exec_joinFrame h ho, hcount, State.countJoin, hleft]
      dsimp only
      rw [if_neg (by omega), hentry, State.frameHeard_modifyEntry]
      exact congrArg Host.Outcome.next (State.postChanges_heard rfl)
    · rw [exec_joinFrame h ho, hcount, State.countJoin, hleft]
      dsimp only
      rw [if_pos (by omega)]
      exact congrArg Host.Outcome.next (State.admitPeer_eq h.peer ha hl Iff.rfl)
  · have hrestart : (s.frameHeard k f).applyJoin k f = (s.frameHeard k f).restartPeer k f := by
      rw [State.applyJoin]
      rcases hst with hst | hst
      · have hst' : ((s.frameHeard k f).entry k).state = .member := by rw [hentry]; exact hst
        rw [hst']
      · have hst' : ((s.frameHeard k f).entry k).state = .suspect := by rw [hentry]; exact hst
        rw [hst']
    have hold : (s.heardEntry k f).incarnation.getD 0 = i := by
      show (s.entry k).incarnation.getD 0 = i
      rw [hi]; rfl
    have hstart := Entry.startJoining_recorded s.admitRounds f (s.heardEntry k f)
    have hmove := State.frameHeard_moveEntry (s := s) (k := k) (f := f)
      (g := fun e => { ((e.startJoining s.admitRounds).recordIncarnation f).report f with splits := 0 }) (by dsimp only; rw [hstart]; rfl)
    rw [hstart] at hmove
    rw [exec_joinFrame h ho, hrestart, State.restartPeer, hentry, hold]
    refine congrArg Host.Outcome.next ?_
    refine (congrArg (State.post (.restarted k i f.incarnation)) (State.postChanges_heard hmove)).trans ?_
    exact State.postAll_postAll { s with lu := s.lu.heard k f } _ _ [.restarted k i f.incarnation]

/-! ### Observer adoption -/

theorem exec_frame_adopted {s : State} {k : Addr} {f : FrameBody} (h : InStep s k f) (ho : s.own.state = .absent) :
    exec (.announceFrame k f) s = .next ((s.frameHeard k f).adoptFrame .announce k f) ∧
    exec (.joinFrame k f) s = .next ((s.frameHeard k f).adoptFrame .join k f) ∧
    exec (.leaveFrame k f) s = .next ((s.frameHeard k f).adoptFrame .leave k f) :=
  ⟨congrArg Host.Outcome.next ((State.closeSlot_heard h .announce).trans (if_pos ho)),
   congrArg Host.Outcome.next ((State.closeSlot_heard h .join).trans (if_pos ho)),
   congrArg Host.Outcome.next ((State.closeSlot_heard h .leave).trans (if_pos ho))⟩

/-- Where nobody is accused the sender's entry moves alone. -/
theorem State.frameHeard_moveEntry_none {s : State} (k : Addr) (f : FrameBody) (g : Entry → Entry) (ha : s.vu.hostAccused = 0) :
    (s.frameHeard k f).moveEntry k g =
      ({ s with lu := s.lu.heard k f } : State).setEntry k (g (s.heardEntry k f)) := by
  have hsame (b : Bool) : (if b then s.vu.hostAccused else eraseAddr k s.vu.hostAccused) = s.vu.hostAccused := by
    split
    · rfl
    · rw [ha, eraseAddr_zero]
  rw [State.frameHeard, State.moveEntry_setEntry]
  dsimp only
  rw [hsame]
  rfl

/-- An adopted JOINING entry (R8, R9). -/
theorem Entry.adopt_joining {e : Entry} {kind : FrameKind} {f : FrameBody} (n : Nat) (h : adoptedState kind f e.state = .joining) :
    e.adopt kind f n = { e.reported f with
      state := .joining, admission := if e.state = .joining then e.admission else some n } := by
  rw [Entry.adopt, h, Entry.moveTo_of_ne (by decide)]
  dsimp only
  split <;> rfl

/-- An adopted ABSENT entry (R8, R9). -/
theorem Entry.adopt_absent {e : Entry} {kind : FrameKind} {f : FrameBody} (n : Nat) (h : adoptedState kind f e.state = .absent) :
    e.adopt kind f n = if e.state = .absent then { e.reported f with admission := none } else (e.reported f).gone := by
  rw [Entry.adopt, h, Entry.moveTo_absent_recorded]
  dsimp only
  split <;> rfl

/-- An adopted MEMBER or RECOVERING entry (R8, R9). -/
theorem Entry.adopt_present {e : Entry} {kind : FrameKind} {f : FrameBody} (n : Nat) {st : EntryState}
    (h : adoptedState kind f e.state = st) (hst : st = .member ∨ st = .recovering) :
    e.adopt kind f n = { e.reported f with
      state := st, admission := none, splits := if st = .recovering ∧ e.state ≠ .recovering then 0 else e.splits } := by
  have hmove (x : Entry) : x.moveTo st = { x with state := st, admission := none } := by
    rcases hst with rfl | rfl <;> rw [Entry.moveTo_of_ne (by decide)] <;> rfl
  rw [Entry.adopt, h]
  dsimp only
  rw [hmove]
  have hj : ¬ st = .joining := by rcases hst with rfl | rfl <;> decide
  rcases hst with rfl | rfl
  · split <;> rfl
  · split
    · next he => rw [if_neg (fun hc => hc.2 he)]; rfl
    · next he => rw [if_pos ⟨rfl, he⟩]; rfl

/-- The state that an ANNOUNCE frame gives an observed entry, by its host state (R8, R9). -/
theorem adoptedState_announce (f : FrameBody) (old : EntryState) : adoptedState .announce f old =
    if HostState.ofCode f.hostCode = .held then .absent
    else if HostState.ofCode f.hostCode = .resetting then .recovering
    else if old = .recovering then .absent else .member := by
  unfold adoptedState
  cases HostState.ofCode f.hostCode <;> rfl

/-- View agreement judged at an entry that was just put in the table (R17). -/
theorem State.compareView_setEntry (u : State) (k : Addr) (x : Entry) (f : FrameBody) (posts : Bool) :
    (u.setEntry k x).compareView k f posts =
      (u.postAll (eventIf (inSet k u.vu.voters = true ∧ posts = true ∧ x.viewAgrees = true ∧ (f.view == u.vu.voters) = false)
        (.viewMismatch k f.view))).setEntry k { x with
          viewAgrees := if inSet k u.vu.voters then f.view == u.vu.voters else x.viewAgrees } := by
  have hvoters : (u.setEntry k x).vu.voters = u.vu.voters := rfl
  rw [State.compareView, hvoters, State.postAll_eventIf, State.entry_setEntry, if_pos rfl]
  dsimp only
  rw [State.modifyEntry_setEntry]
  by_cases hv : inSet k u.vu.voters = true
  · simp only [hv, if_true, true_and, Bool.and_eq_true, Bool.not_eq_true', and_assoc]
    split <;> rfl
  · rw [if_neg hv, if_neg hv, if_neg (fun hc => hv hc.1)]

/-- An observed ANNOUNCE frame whose sender stands is compared and counted (R17, R30). -/
theorem State.adoptFrame_present {s : State} {k : Addr} {f : FrameBody} (ha : s.vu.hostAccused = 0) {x : Entry}
    (hx : (s.heardEntry k f).adopt .announce f s.admitRounds = x) (hp : x.state ≠ .absent) : ∃ tally : Vector AddrSet 16,
      (∀ j a : Addr, inSet a tally[j] = (inSet a s.vu.tally[j] || (a == k && inSet a s.vu.voters && inSet j f.accuses))) ∧
      (s.frameHeard k f).adoptFrame .announce k f = { s with
        lu := s.lu.heard k f
        vu := { (s.setEntry k { x with
          viewAgrees := if inSet k s.vu.voters then f.view == s.vu.voters else x.viewAgrees }).vu with tally := tally } } := by
  let u : State := { s with lu := s.lu.heard k f }
  have hmove : (s.frameHeard k f).moveEntry k (Entry.adopt .announce f (s.frameHeard k f).admitRounds) = u.setEntry k x := by
    rw [State.frameHeard_moveEntry_none k f _ ha]
    exact congrArg (fun y => u.setEntry k y) hx
  have hview : (u.setEntry k x).compareView k f false = u.setEntry k { x with
      viewAgrees := if inSet k s.vu.voters then f.view == s.vu.voters else x.viewAgrees } := by
    rw [State.compareView_setEntry, State.postAll_eventIf, if_neg (show ¬ (_ ∧ false = true ∧ _) from fun hc => Bool.noConfusion hc.2.1)]
  obtain ⟨tally, ht, heq⟩ := State.countAccusations_eq k f.accuses (u.setEntry k { x with
      viewAgrees := if inSet k s.vu.voters then f.view == s.vu.voters else x.viewAgrees })
  refine ⟨tally, ht, ?_⟩
  rw [State.adoptFrame, hmove, State.entry_setEntry, if_pos rfl, if_pos ⟨rfl, hp⟩, hview, heq]
  rfl

/-- An observed frame that is no ANNOUNCE, or leaves its sender ABSENT, sets the entry alone (R8, R9). -/
theorem State.adoptFrame_alone {s : State} {k : Addr} {f : FrameBody} {kind : FrameKind} (ha : s.vu.hostAccused = 0) {x : Entry}
    (hx : (s.heardEntry k f).adopt kind f s.admitRounds = x) (hp : kind = .announce → x.state = .absent) :
    (s.frameHeard k f).adoptFrame kind k f = { s with lu := s.lu.heard k f, vu := (s.setEntry k x).vu } := by
  have hmove : (s.frameHeard k f).moveEntry k (Entry.adopt kind f (s.frameHeard k f).admitRounds) =
      ({ s with lu := s.lu.heard k f } : State).setEntry k x := by
    rw [State.frameHeard_moveEntry_none k f _ ha]
    exact congrArg (fun y => ({ s with lu := s.lu.heard k f } : State).setEntry k y) hx
  rw [State.adoptFrame, hmove, State.entry_setEntry, if_pos rfl, if_neg (fun hc => hc.2 (hp hc.1))]
  rfl

/-- Settles O42, by the state that the frame gives the entry: JOINING, ABSENT, or one of those that stand. -/
theorem observerAdoptsFrame : Obligations.ObserverAdoptsFrame := by
  intro s k f h ho ha
  obtain ⟨hannounce, hjoin, hleave⟩ := exec_frame_adopted h ho
  have habsent {kind : FrameKind} (hst : adoptedState kind f (s.heardEntry k f).state = .absent) :
      (s.frameHeard k f).adoptFrame kind k f = { s with
        lu := s.lu.heard k f
        vu := (s.setEntry k (if (s.entry k).state = .absent then { (s.heardEntry k f).reported f with admission := none }
          else ((s.heardEntry k f).reported f).gone)).vu } := by
    refine State.adoptFrame_alone ha (Entry.adopt_absent _ hst) (fun _ => ?_)
    split
    · next hold => exact hold
    · rfl
  have hannounced (hst : adoptedState .announce f (s.heardEntry k f).state = .absent) := hannounce.trans (congrArg Host.Outcome.next (habsent hst))
  refine ⟨?_, ?_, fun hh => hannounced ?_, fun hh hr hold => hannounced ?_, fun hst => ?_⟩
  · exact hjoin.trans (congrArg Host.Outcome.next (State.adoptFrame_alone ha (Entry.adopt_joining _ rfl) FrameKind.noConfusion))
  · exact hleave.trans (congrArg Host.Outcome.next (habsent rfl))
  · rw [adoptedState_announce]
    exact if_pos hh
  · rw [adoptedState_announce]
    exact (if_neg hh).trans ((if_neg hr).trans (if_pos hold))
  · have hgiven : adoptedState .announce f (s.heardEntry k f).state =
        if HostState.ofCode f.hostCode = .resetting then .recovering else .member := by
      rw [adoptedState_announce]
      rcases hst with hr | ⟨hh, hold⟩
      · have hr' : HostState.ofCode f.hostCode = .resetting := hr
        rw [if_neg (by rw [hr']; decide), if_pos hr', if_pos hr']
      · exact (if_neg hh).trans (if_congr Iff.rfl rfl (if_neg hold))
    have hpresent := Entry.adopt_present s.admitRounds hgiven (by split; exacts [.inr rfl, .inl rfl])
    obtain ⟨tally, ht, heq⟩ := State.adoptFrame_present ha hpresent (by dsimp only; split <;> decide)
    refine ⟨tally, ht, hannounce.trans (congrArg Host.Outcome.next (heq.trans ?_))⟩
    have hsplits : (((if HostState.ofCode f.hostCode = .resetting then EntryState.recovering else .member) = .recovering) ∧
        (s.heardEntry k f).state ≠ .recovering) ↔ (HostState.ofCode f.hostCode = .resetting ∧ (s.entry k).state ≠ .recovering) := by
      refine and_congr_left fun _ => ?_
      split
      · next hr => exact iff_of_true rfl hr
      · next hr => exact iff_of_false EntryState.noConfusion hr
    simp only [hsplits]
    rfl

/-! ### Members announce -/

/-- A MEMBER that a test names. -/
def State.namedMember (x : State) (p : Addr → Bool) (j : Addr) : Bool := p j && (x.entry j).state == .member

theorem State.namedMember_iff {x : State} {p : Addr → Bool} {j : Addr} :
    x.namedMember p j = true ↔ p j = true ∧ (x.entry j).state = .member := by
  rw [State.namedMember, Bool.and_eq_true, beq_iff_eq]

/-- One suspicion seen from every entry (R27). -/
theorem State.entry_suspect_member {x : State} {b : Addr} (hm : (x.entry b).state = .member) (c : SuspectCause) (j : Addr) :
    (x.suspect b c).entry j = if j = b then { x.entry b with state := .suspect, admission := none } else x.entry j := by
  rw [State.entry_suspect, Entry.moveTo_of_ne (by decide)]
  simp [hm]

/-- Suspicions one after another: each MEMBER of the list that is named becomes SUSPECT, in the list's order (R28). -/
theorem State.foldl_suspect (c : SuspectCause) (p : Addr → Bool) (l : List Addr) (hl : l.Nodup) (x : State) :
    let t := l.foldl (fun t j => if p j then t.suspect j c else t) x
    t = { x with
      vu := { x.vu with table := t.vu.table }
      hp := (x.postAll ((l.filter (x.namedMember p)).map (fun j => .suspected j c))).hp } ∧
    ∀ j, t.entry j =
      if j ∈ l ∧ x.namedMember p j = true then { x.entry j with state := .suspect, admission := none } else x.entry j := by
  induction l generalizing x with
  | nil => exact ⟨rfl, fun j => by simp⟩
  | cons b l ih =>
    obtain ⟨hb, hl⟩ := List.nodup_cons.1 hl
    have hne {j : Addr} (hj : j ∈ l) : j ≠ b := fun h => hb (h ▸ hj)
    dsimp only
    rw [List.foldl_cons]
    by_cases hn : x.namedMember p b = true
    · obtain ⟨hp, hm⟩ := State.namedMember_iff.1 hn
      have hother {j : Addr} (hj : j ∈ l) : (x.suspect b c).entry j = x.entry j := by
        rw [State.entry_suspect_member hm, if_neg (hne hj)]
      have hnamed {j : Addr} (hj : j ∈ l) : (x.suspect b c).namedMember p j = x.namedMember p j := by
        rw [State.namedMember, State.namedMember, hother hj]
      obtain ⟨hrec, hent⟩ := ih hl (x.suspect b c)
      rw [List.filter_congr fun j hj => hnamed hj] at hrec
      rw [if_pos hp, List.filter_cons_of_pos hn, List.map_cons]
      refine ⟨hrec.trans ?_, fun j => (hent j).trans ?_⟩
      · rw [State.suspect_eq, if_pos hm]
        exact congrArg (fun h => ({ x with vu := { x.vu with table := _ }, hp := h } : State)) (by
          rw [State.postAll_eq, State.postAll_eq]; rfl)
      · by_cases hj : j = b
        · rw [hj, if_neg (fun h => hb h.1), State.entry_suspect_member hm, if_pos rfl, if_pos ⟨List.mem_cons_self, hn⟩]
        · rw [State.entry_suspect_member hm, if_neg hj]
          refine if_congr ?_ rfl rfl
          rw [List.mem_cons, or_iff_right hj]
          exact and_congr_right fun hm => by rw [hnamed hm]
    · have hkeep : (if p b then x.suspect b c else x) = x := by
        split
        · next hp => rw [State.suspect_eq, if_neg (fun hm => hn (State.namedMember_iff.2 ⟨hp, hm⟩))]
        · rfl
      obtain ⟨hrec, hent⟩ := ih hl x
      rw [hkeep, List.filter_cons_of_neg hn]
      refine ⟨hrec, fun j => (hent j).trans (if_congr ?_ rfl rfl)⟩
      rw [List.mem_cons]
      exact and_congr_left fun hj => (or_iff_right (fun h : j = b => hn (h ▸ hj))).symm

/-! ### An ANNOUNCE frame from a station that stands -/

theorem State.postAll_vu (es : List Event) (u : State) : (u.postAll es).vu = u.vu := by rw [State.postAll_eq]

theorem State.postAll_address (es : List Event) (u : State) : (u.postAll es).hp.address = u.hp.address := by
  induction es generalizing u with
  | nil => rfl
  | cons e es ih => exact (ih (u.post e)).trans (State.post_address e u)

theorem State.postAll_config (es : List Event) (u : State) : (u.postAll es).hp.config = u.hp.config := by
  induction es generalizing u with
  | nil => rfl
  | cons e es ih => exact (ih (u.post e)).trans (State.post_config e u)

theorem State.postAll_missLimit (es : List Event) (u : State) : (u.postAll es).missLimit = u.missLimit := by
  rw [State.missLimit, State.cfg, State.postAll_config]
  rfl

/-- Posts give no evidence (R23). -/
theorem State.evidence_setEntry_postAll {u : State} {k : Addr} (hk : k ≠ u.hp.address) (es : List Event) (x : Entry) :
    ((u.postAll es).setEntry k x).evidence k = (u.setEntry k x).evidence k := by
  rw [Bool.eq_iff_iff, State.evidence_setEntry hk, State.evidence_setEntry (by rw [State.postAll_address]; exact hk),
    State.own_of (State.postAll_vu es u) (State.postAll_address es u), State.postAll_missLimit, State.postAll_vu]

/-- The evidence test of an entry that was just put in the table: only a MEMBER becomes SUSPECT (R27). -/
theorem State.testEvidence_setEntry {u : State} {k : Addr} {x : Entry} {found : Prop} [Decidable found]
    (h : found ↔ x.state = .member ∧ (u.setEntry k x).evidence k = true) : (u.setEntry k x).testEvidence k =
      (u.postAll (eventIf found (.suspected k .evidence))).setEntry k { x with
        state := if found then .suspect else x.state, admission := if found then none else x.admission } := by
  rw [State.testEvidence, State.postAll_eventIf]
  by_cases hf : found
  · obtain ⟨hm, he⟩ := h.1 hf
    rw [if_pos he, if_pos hf, if_pos hf, if_pos hf, State.suspect_setEntry hm]
  · rw [if_neg hf, if_neg hf, if_neg hf]
    split
    · next he => rw [State.suspect_eq, State.entry_setEntry, if_pos rfl, if_neg (fun hm => hf (h.2 ⟨hm, he⟩))]
    · rfl

/-- The accusation step: the MEMBERs that a voter names become SUSPECT, and the voter is their accuser in the tally (R28, R30). -/
theorem State.takeAccusations_eq (k : Addr) (f : FrameBody) {x : State} {named : Addr → Bool}
    (hn : ∀ j, named j = true ↔ inSet k x.vu.voters = true ∧ inSet j f.accuses = true ∧ (x.entry j).state = .member) :
    ∃ t, x.takeAccusations k f = t ∧
      t = { x with
        vu := { x.vu with table := t.vu.table, tally := t.vu.tally }
        hp := (x.postAll ((allAddrs.filter named).map (fun j => .suspected j .accused))).hp } ∧
      (∀ j, t.entry j = if named j = true then { x.entry j with state := .suspect, admission := none } else x.entry j) ∧
      (∀ j a : Addr, inSet a t.vu.tally[j] = (inSet a x.vu.tally[j] || (a == k && inSet a x.vu.voters && inSet j f.accuses))) := by
  let suspected : State := if inSet k x.vu.voters then
    allAddrs.foldl (fun t j => if inSet j f.accuses then t.suspect j .accused else t) x else x
  have hsuspected : suspected = { x with
        vu := { x.vu with table := suspected.vu.table }
        hp := (x.postAll ((allAddrs.filter named).map (fun j => .suspected j .accused))).hp } ∧
      ∀ j, suspected.entry j =
        if named j = true then { x.entry j with state := .suspect, admission := none } else x.entry j := by
    by_cases hv : inSet k x.vu.voters = true
    · have hsame (j : Addr) : x.namedMember (fun j => inSet j f.accuses) j = named j := by
        rw [Bool.eq_iff_iff, State.namedMember_iff, hn]
        exact (and_iff_right hv).symm
      obtain ⟨hrec, hent⟩ := State.foldl_suspect .accused (fun j => inSet j f.accuses) allAddrs allAddrs_nodup x
      rw [List.filter_congr fun j _ => hsame j] at hrec
      simp only [suspected, if_pos hv]
      refine ⟨hrec, fun j => (hent j).trans ?_⟩
      rw [hsame]
      exact if_congr (and_iff_right (mem_allAddrs j)) rfl rfl
    · have hnone (j : Addr) : ¬ named j = true := fun h => hv ((hn j).1 h).1
      have hempty : allAddrs.filter named = [] := List.filter_eq_nil_iff.2 fun j _ => hnone j
      simp only [suspected, if_neg hv, hempty]
      exact ⟨rfl, fun j => (if_neg (hnone j)).symm⟩
  obtain ⟨hrec, hent⟩ := hsuspected
  obtain ⟨tally, ht, heq⟩ := State.countAccusations_eq k f.accuses suspected
  have hvu : suspected.vu = { x.vu with table := suspected.vu.table } := congrArg State.vu hrec
  refine ⟨_, heq, ?_, fun j => hent j, fun j a => ?_⟩
  · conv_lhs => rw [hrec]
  · rw [hvu] at ht
    exact ht j a

/-- A station that stands, up to the accusation step: the reports, the evidence test, view agreement (R7, R17, R18, R27). -/
theorem State.reportedInView {s : State} {k : Addr} (hk : k ≠ s.hp.address) (f : FrameBody) (hl : 1 ≤ s.missLimit)
    {found : Prop} [Decidable found] (hfound : found ↔ (s.entry k).state = .member ∧ s.own.state.isMember = true ∧
      (HostState.ofCode f.hostCode = .lapsed ∨ HostState.ofCode f.hostCode = .fault ∨ inSet k s.vu.hostAccused = true)) :
    (((((s.frameHeard k f).modifyEntry k (fun e => (e.recordIncarnation f).report f)).postChanges k (s.heardEntry k f) f).testEvidence
      k).compareView k f true) = (State.postAll
        (eventIf ((s.entry k).flags ≠ f.flags) (.condition k f.flags) ++ eventIf ((s.entry k).service ≠ f.service) (.service k f.service) ++
          eventIf found (.suspected k .evidence) ++ eventIf (inSet k s.vu.voters = true ∧ (s.entry k).viewAgrees = true ∧
            (f.view == s.vu.voters) = false) (.viewMismatch k f.view))
        { s with lu := s.lu.heard k f }).setEntry k { (s.heardEntry k f).reported f with
          state := if found then .suspect else (s.entry k).state
          admission := if found then none else (s.entry k).admission
          viewAgrees := if inSet k s.vu.voters = true then f.view == s.vu.voters else (s.entry k).viewAgrees } := by
  let u : State := { s with lu := s.lu.heard k f }
  let e := (s.heardEntry k f).reported f
  let changes := eventIf ((s.entry k).flags ≠ f.flags) (.condition k f.flags) ++ eventIf ((s.entry k).service ≠ f.service) (.service k f.service)
  have hreported : ((s.frameHeard k f).modifyEntry k (fun e => (e.recordIncarnation f).report f)).postChanges k (s.heardEntry k f) f =
      (u.postAll changes).setEntry k e := by
    rw [State.setEntry_postAll, State.frameHeard_modifyEntry]
    exact State.postChanges_heard rfl
  have hevidence : found ↔ e.state = .member ∧ ((u.postAll changes).setEntry k e).evidence k = true := by
    have hmiss : ¬ u.missLimit ≤ e.missCount := Nat.not_le.2 hl
    rw [State.evidence_setEntry_postAll (by exact hk), State.evidence_setEntry (by exact hk), hfound]
    refine and_congr_right fun hm => and_congr_right fun _ => ?_
    have hmember : e.state.isMember = true := by
      show (s.entry k).state.isMember = true
      rw [hm]; rfl
    rw [or_iff_right hmiss]
    exact (and_iff_right hmember).symm
  have hvoters (es : List Event) : (u.postAll es).vu.voters = s.vu.voters := by rw [State.postAll_vu]
  rw [hreported, State.testEvidence_setEntry hevidence, State.compareView_setEntry, ← State.postAll_append, ← State.postAll_append, hvoters]
  simp only [true_and]
  rfl

/-- The evidence test goes before the accusation step, so one suspicion at most falls on the sender (R27, R28). -/
theorem State.announceFromMember_eq {s : State} {k : Addr} {f : FrameBody} (hk : k ≠ s.hp.address)
    (hi : (s.entry k).incarnation = some f.incarnation) (hh : HostState.ofCode f.hostCode ≠ .held) (hl : 1 ≤ s.missLimit)
    {found : Prop} [Decidable found] (hfound : found ↔ (s.entry k).state = .member ∧ s.own.state.isMember = true ∧
      (HostState.ofCode f.hostCode = .lapsed ∨ HostState.ofCode f.hostCode = .fault ∨ inSet k s.vu.hostAccused = true))
    {accused : Addr → Prop} [DecidablePred accused] (haccused : ∀ j, accused j ↔ inSet k s.vu.voters = true ∧
      inSet j f.accuses = true ∧ (s.entry j).state = .member ∧ ¬ (j = k ∧ found)) :
    ∃ t, (s.frameHeard k f).announceFromMember k f = t ∧ t.lu = s.lu.heard k f ∧ t.pt = s.pt ∧ t.ru = s.ru ∧ t.cm = s.cm ∧
      t.pending = s.pending ∧ t.ticks = s.ticks ∧ t.vu = { s.vu with table := t.vu.table, tally := t.vu.tally } ∧
      t.entry k = { (s.heardEntry k f).reported f with
        state := if found ∨ accused k then .suspect else (s.entry k).state
        admission := if found ∨ accused k then none else (s.entry k).admission
        viewAgrees := if inSet k s.vu.voters = true then f.view == s.vu.voters else (s.entry k).viewAgrees } ∧
      (∀ j : Addr, j ≠ k → t.entry j =
        if accused j then { s.entry j with state := .suspect, admission := none } else s.entry j) ∧
      (∀ j a : Addr, inSet a t.vu.tally[j] =
        (inSet a s.vu.tally[j] || (a == k && inSet a s.vu.voters && inSet j f.accuses))) ∧
      t.hp = (State.postAll (eventIf ((s.entry k).flags ≠ f.flags) (.condition k f.flags) ++
        eventIf ((s.entry k).service ≠ f.service) (.service k f.service) ++ eventIf found (.suspected k .evidence) ++
        eventIf (inSet k s.vu.voters = true ∧ (s.entry k).viewAgrees = true ∧ (f.view == s.vu.voters) = false) (.viewMismatch k f.view) ++
        (allAddrs.filter (fun j => decide (accused j))).map (fun j => .suspected j .accused)) { s with lu := s.lu.heard k f }).hp := by
  have hview := State.reportedInView hk f hl hfound
  generalize (eventIf ((s.entry k).flags ≠ f.flags) (Event.condition k f.flags) ++ _ ++ _ ++ _) = es at hview ⊢
  generalize hx : ({ (s.heardEntry k f).reported f with
    state := if found then .suspect else (s.entry k).state
    admission := if found then none else (s.entry k).admission
    viewAgrees := if inSet k s.vu.voters = true then f.view == s.vu.voters else (s.entry k).viewAgrees } : Entry) = x at hview
  generalize hu : ({ s with lu := s.lu.heard k f } : State) = u at hview ⊢
  have hentry (j : Addr) : ((u.postAll es).setEntry k x).entry j = if j = k then x else s.entry j := by
    rw [State.entry_setEntry, State.entry_of_vu (State.postAll_vu es u), ← hu]
    rfl
  have hvoters : ((u.postAll es).setEntry k x).vu = (s.setEntry k x).vu := by
    rw [State.setEntry_postAll, ← hu]
    rfl
  have hnamed (j : Addr) : decide (accused j) = true ↔ inSet k ((u.postAll es).setEntry k x).vu.voters = true ∧
      inSet j f.accuses = true ∧ (((u.postAll es).setEntry k x).entry j).state = .member := by
    rw [decide_eq_true_iff, haccused, hvoters, hentry]
    refine and_congr_right fun _ => and_congr_right fun _ => ?_
    by_cases hj : j = k
    · rw [if_pos hj, hj, ← hx]
      by_cases hf : found
      · simp [hf]
      · simp [hf]
    · rw [if_neg hj]
      exact and_iff_left fun h => hj h.1
  obtain ⟨t, ht, hrec, hent, htally⟩ := State.takeAccusations_eq k f hnamed
  have hsame : ¬ (s.heardEntry k f).differs f = true := by
    rw [Entry.differs_of_some (e := s.heardEntry k f) hi]; simp
  refine ⟨t, ?_, ?_⟩
  · rw [State.announceFromMember, State.frameHeard_entry, if_neg hsame, if_neg hh, ← ht, ← hview]
  have hvu : t.vu = { s.vu with table := t.vu.table, tally := t.vu.tally } := (congrArg State.vu hrec).trans (by rw [hvoters]; rfl)
  rw [State.setEntry_postAll, State.postAll_postAll] at hrec
  refine ⟨?_, ?_, ?_, ?_, ?_, ?_, hvu, ?_, fun j hj => ?_, fun j a => ?_, (congrArg State.hp hrec :)⟩
  · exact (congrArg State.lu hrec).trans (by rw [← hu])
  · exact (congrArg State.pt hrec).trans (by rw [← hu])
  · exact (congrArg State.ru hrec).trans (by rw [← hu])
  · exact (congrArg State.cm hrec).trans (by rw [← hu])
  · exact (congrArg State.pending hrec).trans (by rw [← hu])
  · exact (congrArg State.ticks hrec).trans (by rw [← hu])
  · rw [hent, hentry, if_pos rfl, ← hx]
    by_cases ha : accused k
    · simp [ha]
    · simp [ha]
  · rw [hent, hentry, if_neg hj]
    exact if_congr decide_eq_true_iff rfl rfl
  · rw [htally, hvoters]
    rfl

theorem State.applyAnnounce_of_member {s : State} {k : Addr} {f : FrameBody}
    (h : (s.entry k).state.isMember = true ∨ (s.entry k).state = .recovering) : s.applyAnnounce k f = s.announceFromMember k f := by
  unfold State.applyAnnounce
  cases hs : (s.entry k).state with
  | absent => rw [hs] at h; exact absurd h (by decide)
  | joining => rw [hs] at h; exact absurd h (by decide)
  | member => rfl
  | suspect => rfl
  | recovering => rfl

/-- Settles O46: the reports, the evidence test, view agreement and the accusation step, one after the other. -/
theorem memberAnnounces : Obligations.MemberAnnounces := by
  intro s k f h ho hst hi hh hl
  have happly : (s.frameHeard k f).applyAnnounce k f = (s.frameHeard k f).announceFromMember k f :=
    State.applyAnnounce_of_member (by rw [State.frameHeard_entry]; exact hst)
  obtain ⟨t, ht, hall⟩ := State.announceFromMember_eq h.peer hi hh hl Iff.rfl (fun _ => Iff.rfl)
  exact ⟨t, (exec_announceFrame h ho).trans (congrArg Host.Outcome.next (happly.trans ht)), hall⟩

/-! ### Miss accounting -/

/-- The miss count stops at 7 (R1, R10). -/
theorem satAdd_missMax (n : Nat) : satAdd Config.missMax n = min 7 (n + 1) := by
  unfold satAdd Config.missMax
  split <;> omega

theorem SlotOutcome.isFrame_iff (o : SlotOutcome) : o.isFrame = true ↔ ∃ n, o = .frame n := by
  cases o <;> simp [SlotOutcome.isFrame]

/-- A missing peer that is not left out has its count raised, and the miss limit is judged by the new count (R10 to R13). -/
theorem State.accountMiss_counted {s : State} {j : Addr} (hj : j ≠ s.hp.address) (ha : (s.entry j).state ≠ .absent)
    (hf : ∀ n, s.lu.outcomeOf j ≠ .frame n) {e : Entry} (he : e = { s.entry j with missCount := min 7 ((s.entry j).missCount + 1) }) :
    (e.missCount < s.missLimit → s.accountMiss j = s.setEntry j e) ∧
    (¬ e.missCount < s.missLimit →
      (e.state = .recovering → s.accountMiss j = ((s.setEntry j e).moveEntry j (Entry.moveTo .absent)).post (.lost j)) ∧
      (e.state = .joining → s.accountMiss j = ((s.setEntry j e).moveEntry j (Entry.moveTo .absent)).post (.left j .silent)) ∧
      (e.state = .member ∨ e.state = .suspect → s.accountMiss j = (s.setEntry j e).testEvidence j)) := by
  have hcount : s.modifyEntry j (fun e => { e with missCount := satAdd Config.missMax e.missCount }) = s.setEntry j e := by
    rw [State.modifyEntry, satAdd_missMax, he]
  have hentry : (s.setEntry j e).entry j = e := by rw [State.entry_setEntry, if_pos rfl]
  have hcounted : ¬ (j = s.ownAddr ∨ (s.entry j).state = .absent ∨ (s.lu.outcomeOf j).isFrame = true) := by
    rw [SlotOutcome.isFrame_iff]
    rintro (h | h | ⟨n, h⟩)
    · exact hj h
    · exact ha h
    · exact hf n h
  rw [State.accountMiss, if_neg hcounted, hcount]
  dsimp only
  rw [hentry]
  refine ⟨fun h => if_pos h, fun h => ?_⟩
  rw [if_neg (by exact h)]
  exact ⟨fun hs => by rw [hs], fun hs => by rw [hs], fun hs => by rcases hs with hs | hs <;> rw [hs]⟩

/-- A peer whose life ends at the miss limit (R4, R12, R13, R44). -/
theorem State.endLife_eq {s : State} {j : Addr} {e : Entry} (he : e.state ≠ .absent) (ev : Event) :
    ((s.setEntry j e).moveEntry j (Entry.moveTo .absent)).post ev = { s with
      vu := { (s.setEntry j e.gone).vu with hostAccused := eraseAddr j s.vu.hostAccused }
      hp := (s.post ev).hp } := by
  rw [State.moveEntry_setEntry, Entry.moveTo_absent_eq_gone he]
  rfl

/-- Settles O51, by the miss limit and the state of the entry. -/
theorem missAccounting : Obligations.MissAccounting := by
  intro s j hj e gone
  refine ⟨fun h => ?_, fun ha hf => ?_⟩
  · rw [← SlotOutcome.isFrame_iff] at h
    exact if_pos (.inr h)
  · obtain ⟨hbelow, hlimit⟩ := State.accountMiss_counted hj ha hf (e := e) rfl
    have htest {found : Prop} [Decidable found] (hfound : found ↔ e.state = .member ∧ (s.setEntry j e).evidence j = true) :=
      State.testEvidence_setEntry hfound
    refine ⟨fun h => ?_, fun hl => ?_⟩
    · by_cases hlt : e.missCount < s.missLimit
      · exact hbelow hlt
      · have hstate : e.state = .suspect ∨ (e.state = .member ∧ s.own.state.isMember = false) := h.resolve_left hlt
        have hnone : ¬ (e.state = .member ∧ (s.setEntry j e).evidence j = true) := by
          rintro ⟨hm, hev⟩
          obtain ⟨hown, -⟩ := (State.evidence_setEntry hj e).1 hev
          rcases hstate with h | ⟨_, h⟩
          · rw [hm] at h; exact EntryState.noConfusion h
          · rw [h] at hown; exact Bool.noConfusion hown
        obtain ⟨-, -, hstands⟩ := hlimit hlt
        exact (hstands (hstate.symm.imp_left And.left)).trans (htest (iff_of_false not_false hnone))
    · obtain ⟨hlost, hleft, hstands⟩ := hlimit (Nat.not_lt.2 hl)
      refine ⟨fun hr => ?_, fun hr => ?_, fun hm ho => ?_⟩
      · rw [hlost hr, State.endLife_eq (by rw [hr]; decide)]
        rfl
      · rw [hleft hr, State.endLife_eq (by rw [hr]; decide)]
        rfl
      · have hev : (s.setEntry j e).evidence j = true := (State.evidence_setEntry hj e).2 ⟨ho, by rw [hm]; rfl, .inl hl⟩
        exact (hstands (.inl hm)).trans (htest (iff_of_true trivial ⟨hm, hev⟩))

/-! ### A collision -/

/-- The View Unit as the station enters BLOCKED: the own entry ends, and the own accusations and the pending LEAVE frame with it (R4, R60, R85). -/
theorem State.withdrawBlocked_eq (s : State) : s.withdrawBlocked = { s with
    vu := { (s.setEntry s.hp.address (if s.own.state = .absent then { s.own with admission := none } else s.own.gone)).vu with
      hostAccused := 0, leavePending := false }
    pt := s.pt.disarmed
    hp := (s.postAll (eventIf (s.own.state = .joining) (.joinFailed .duplicateAddress))).hp } := by
  have hmove : s.own.moveTo .absent = if s.own.state = .absent then { s.own with admission := none } else s.own.gone := by
    split
    · next h => exact Entry.moveTo_absent_self h
    · next h => exact Entry.moveTo_absent_eq_gone h
  have hentry : s.setEntry s.ownAddr (s.entry s.ownAddr) = s := State.setEntry_entry _ _
  have hown := State.moveEntry_setEntry s s.ownAddr (s.entry s.ownAddr) (Entry.moveTo .absent)
  rw [hentry] at hown
  rw [State.withdrawBlocked, hown, State.postAll_eventIf, ← hmove]
  dsimp only
  split <;> rfl

/-- A line event that ends the rounds while no release waits (R119). -/
theorem State.postLeaving_eq {s : State} (h : ¬ (s.ru.state = .held ∧ s.ru.releaseRequested = true)) (e : Event) :
    s.postLeaving e = s.post e := by
  have hdue : s.releaseDue = false := by
    rw [State.releaseDue, Bool.eq_false_iff]
    simpa using h
  rw [State.postLeaving, hdue, if_neg (by simp), State.releaseIfRequested, if_neg (by exact h)]

/-- Settles O55: the withdrawal of the View Unit, the end of the rounds, the post. -/
theorem collisionBlocks : Obligations.CollisionBlocks := by
  refine fun s => ⟨fun h => congrArg Host.Outcome.next (if_neg h), fun hl hd hr => congrArg Host.Outcome.next ?_⟩
  rw [State.takeCollision, if_pos ⟨hl, hd⟩, State.withdrawBlocked_eq, State.postLeaving_eq (by exact hr), State.postAll_append]
  rw [State.postAll_eq]
  rfl

/-! ### The own slot composes -/

/-- The own slot starts where rounds pass and no slot at or after it is over (R71, R80). -/
theorem State.ownSlotReady_iff (s : State) : s.ownSlotReady = true ↔
    ∃ n, (s.lu.state = .synced ∨ s.lu.state = .active) ∧ s.lu.pos = .slots n ∧ n ≤ s.hp.address.val := by
  rw [State.ownSlotReady, Bool.and_eq_true, State.online_iff]
  cases hp : s.lu.pos with
  | slots n =>
    refine ⟨fun ⟨ho, h⟩ => ⟨n, ho, rfl, of_decide_eq_true h⟩, ?_⟩
    rintro ⟨m, ho, ⟨⟩, h⟩
    exact ⟨ho, decide_eq_true h⟩
  | outside => simp
  | ownSlot => simp
  | verdict => simp
  | rest => simp

theorem State.failing_congr {s t : State} (hc : t.hp.config = s.hp.config) (hl : t.cm = s.cm) : t.failing = s.failing := by
  rw [State.failing, State.failing, State.condFlags, State.condFlags, hc, hl]

/-- The host state of the own frame is read off the Reset Unit, the Prompt Timer and the failing condition (R121). -/
theorem State.ownHostState_congr {s t : State} (hc : t.hp.config = s.hp.config) (hl : t.cm = s.cm) (hr : t.ru = s.ru) (hp : t.pt = s.pt) :
    t.ownHostState = s.ownHostState := by
  rw [State.ownHostState, State.ownHostState, State.failing_congr hc hl, hr, hp]

/-- The own accusation set names the own address by the state it reports, every other by the evidence against it (R25, R26). -/
theorem State.accusationSet_eq {s : State} {r : Entry} {accused : AddrSet}
    (h : ∀ j : Addr, inSet j accused = true ↔ r.state.isMember = true ∧
      if j = s.hp.address then r.hostState = .lapsed ∨ r.hostState = .fault
      else (s.entry j).state.isMember = true ∧ (s.missLimit ≤ (s.entry j).missCount ∨ (s.entry j).hostState = .lapsed ∨
        (s.entry j).hostState = .fault ∨ inSet j s.vu.hostAccused = true)) :
    (s.setEntry s.hp.address r).accusationSet = accused := by
  have hown : (s.setEntry s.hp.address r).own = r := (State.entry_setEntry _ _ _ _).trans (if_pos rfl)
  refine setWhere_eq fun j => ?_
  rw [Bool.eq_iff_iff, h, State.evidenceAt]
  by_cases hj : j = s.hp.address
  · rw [if_pos hj, if_pos (by exact hj), State.selfEvidence, hown, Bool.and_eq_true, HostState.isFailing_iff]
  · rw [if_neg hj, if_neg (by exact hj), State.evidence_iff, hown, State.entry_setEntry, if_neg hj]
    exact (and_iff_right (by exact hj)).symm

/-- The own entry with the fields that the own frame reports (R2). -/
def State.ownReported (s : State) : Entry :=
  { s.own with hostState := s.ownHostState, attempt := BitVec.ofNat 3 s.ru.attempt, flags := s.condFlags, service := s.cm.service }

theorem State.recordOwnReport_eq (s : State) : s.recordOwnReport = s.setEntry s.hp.address s.ownReported := rfl

/-- The View Unit at the start of the own slot: report, own accusation set, suspicion of itself, count (R2, R26, R29, R30). -/
theorem State.composeOwn_eq {s : State} {accused : AddrSet} (h : (s.setEntry s.hp.address s.ownReported).accusationSet = accused)
    {self : Prop} [Decidable self] (hself : self ↔ s.own.state = .member ∧ inSet s.hp.address accused = true) :
    ∃ tally : Vector AddrSet 16,
      (∀ j a : Addr, inSet a tally[j] =
        (inSet a s.vu.tally[j] || (a == s.hp.address && inSet a s.vu.voters && inSet j accused))) ∧
      s.composeOwn = { s with
        vu := { (s.setEntry s.hp.address { s.ownReported with
          state := if self then .suspect else s.own.state, admission := if self then none else s.own.admission }).vu with
            ownAccusations := accused, tally := tally }
        hp := (s.postAll (eventIf self (.suspected s.hp.address .self))).hp } := by
  let u : State := { s with vu := { s.vu with ownAccusations := accused } }
  let e : Entry := { s.ownReported with
    state := if self then .suspect else s.own.state, admission := if self then none else s.own.admission }
  have hsuspect : (if inSet s.hp.address accused then (u.setEntry s.hp.address s.ownReported).suspect s.hp.address .self
      else u.setEntry s.hp.address s.ownReported) =
        (u.postAll (eventIf self (.suspected s.hp.address .self))).setEntry s.hp.address e := by
    rw [State.postAll_eventIf]
    by_cases hs : self
    · obtain ⟨hm, ha⟩ := hself.1 hs
      have he : e = { s.ownReported with state := .suspect, admission := none } := by simp only [e, if_pos hs]
      rw [if_pos ha, if_pos hs, State.suspect_setEntry (x := s.ownReported) hm, he]
    · have he : e = s.ownReported := by simp only [e, if_neg hs]; rfl
      rw [if_neg hs, he]
      split
      · next ha =>
        rw [State.suspect_eq, State.entry_setEntry, if_pos rfl, 
          if_neg (fun hm : s.ownReported.state = .member => hs (hself.2 ⟨hm, ha⟩))]
      · rfl
  have haddr : ((u.postAll (eventIf self (.suspected s.hp.address .self))).setEntry s.hp.address e).ownAddr = s.hp.address :=
    State.postAll_address _ u
  obtain ⟨tally, ht, heq⟩ := State.countAccusations_eq s.hp.address accused
    ((u.postAll (eventIf self (.suspected s.hp.address .self))).setEntry s.hp.address e)
  have hvu := congrArg State.vu (State.setEntry_postAll u (eventIf self (.suspected s.hp.address .self)) s.hp.address e)
  refine ⟨tally, fun j a => ?_, ?_⟩
  · rw [ht, hvu]
    rfl
  · have hposts : (u.postAll (eventIf self (.suspected s.hp.address .self))).hp = (s.postAll (eventIf self (.suspected s.hp.address .self))).hp := by
      rw [State.postAll_eq, State.postAll_eq]
    rw [State.composeOwn, State.recordOwnReport_eq, h]
    refine Eq.trans ?_ (heq.trans ?_)
    · exact (congrArg (fun x : State => x.countAccusations x.ownAddr accused) hsuspect).trans (by rw [haddr])
    · rw [State.setEntry_postAll, hposts]
      rfl

theorem State.postAll_digest (es : List Event) (u : State) : (u.postAll es).hp.digest = u.hp.digest := by
  induction es generalizing u with
  | nil => rfl
  | cons e es ih => exact (ih (u.post e)).trans (State.post_digest e u)

theorem State.own_of_table {s t : State} {e : Entry} (ha : t.hp.address = s.hp.address)
    (ht : t.vu.table = (s.setEntry s.hp.address e).vu.table) : t.own = e := by
  rw [State.own, State.entry, State.ownAddr, ha, ht]
  exact (State.entry_setEntry _ _ _ _).trans (if_pos rfl)

/-- The frame that the own station composes after its report, where the report may have made a MEMBER SUSPECT (R51, R169). -/
theorem State.ownFrame_composed {s t : State} {self : Prop} [Decidable self] {i : Byte} {d : Word16} (hself : self → s.own.state = .member)
    (hi : s.own.incarnation = some i) (hd : t.hp.digest = some d) (hc : t.hp.config = s.hp.config)
    (hblocks : t.lu = s.lu ∧ t.cm = s.cm ∧ t.ru = s.ru ∧ t.pt = s.pt) (hvoters : t.vu.voters = s.vu.voters)
    (hleave : t.vu.leavePending = s.vu.leavePending) (hown : t.own = { s.ownReported with
      state := if self then .suspect else s.own.state, admission := if self then none else s.own.admission }) :
    ({ kind := t.ownKind, body := t.ownBody } : OwnFrame) = {
      kind := if s.vu.leavePending = true then .leave else if s.own.state = .joining then .join else .announce
      body := { incarnation := i, round := s.lu.roundNumber, digest := d, hostCode := s.ownHostState.code,
                attempt := BitVec.ofNat 3 s.ru.attempt, flags := s.condFlags, service := s.cm.service, view := s.vu.voters,
                accuses := t.vu.ownAccusations } } := by
  obtain ⟨hlu, hcm, hru, hpt⟩ := hblocks
  have hinc : t.ownIncarnation = i := by
    rw [State.ownIncarnation, hown]
    exact congrArg (fun o : Option Byte => o.getD 0) hi
  have hjoining : t.own.state = .joining ↔ s.own.state = .joining := by
    rw [hown]
    by_cases hs : self
    · simp [hs, hself hs]
    · simp [hs]
  have hflags : t.condFlags = s.condFlags := by rw [State.condFlags, State.condFlags, hc, hcm]
  rw [State.ownKind, State.ownBody, hinc, hlu, hd, State.ownHostState_congr hc hcm hru hpt, hru, hflags, hcm, hvoters, hleave]
  simp only [hjoining, Option.getD_some]

/-- Settles O37: the composed View Unit, then the frame read off it. -/
theorem ownSlotComposed : Obligations.OwnSlotComposed := by
  intro s ready
  refine ⟨fun hn => congrArg Host.Outcome.next (if_neg fun h => ?_), fun n i d accused hr hi hd haccused => ?_⟩
  · obtain ⟨n, h⟩ := s.ownSlotReady_iff.1 h
    exact hn n h
  · have hset : (s.setEntry s.hp.address s.ownReported).accusationSet = accused := State.accusationSet_eq haccused
    have hself : s.own.state = .member ∧ inSet s.hp.address accused = true → s.own.state = .member := And.left
    obtain ⟨tally, ht, heq⟩ := State.composeOwn_eq hset Iff.rfl
    have hframe := State.ownFrame_composed (s := s) (t := s.composeOwn) hself hi
      ((congrArg (fun t => t.hp.digest) heq).trans ((State.postAll_digest _ s).trans hd))
      s.composeOwn_config
      ⟨s.composeOwn_lu, s.composeOwn_cm, s.composeOwn_ru, s.composeOwn_pt⟩
      (congrArg (fun t => t.vu.voters) heq :) (congrArg (fun t => t.vu.leavePending) heq :)
      (State.own_of_table s.composeOwn_address (congrArg (fun t => t.vu.table) heq :))
    refine ⟨tally, ht, congrArg Host.Outcome.next ?_⟩
    rw [State.startOwnSlot, if_pos (s.ownSlotReady_iff.2 ⟨n, hr⟩)]
    dsimp only
    rw [hframe, heq, State.postAll_eventIf, apply_ite State.hp]
    rfl

end Sys2Proof.Machine
end

section
/-! SUPPORT. JOIN, LEAVE and the external host reset: the departure and the rejoining of a host as one record each, and the statements
that rest on them. -/

namespace Sys2Proof.Machine

/-- A host command that is taken after configuration is handed to its owner (R137, R139). -/
theorem State.takeIn_ifConfigured {s : State} (hp : s.hp.phase = .command) (hc : s.hp.config ≠ none) (f : State → State) :
    s.takeIn (State.ifConfigured f) = f s := by
  rw [State.takeIn, if_pos hp, State.ifConfigured, if_pos (by exact Option.isSome_iff_ne_none.2 hc)]

/-! ### Departure (R62, R66) -/

/-- The own entry enters ABSENT in a part whose host accusation set has been cleared (R4, R44). -/
theorem State.moveEntry_own_gone {s x : State} (h : s.own.state ≠ .absent) (hv : x.vu = { s.vu with hostAccused := 0 })
    (ha : x.hp.address = s.hp.address) : x.moveEntry x.ownAddr (Entry.moveTo .absent) =
      { x with vu := { (s.setEntry s.hp.address s.own.gone).vu with hostAccused := 0 } } := by
  have haddr : x.ownAddr = s.hp.address := ha
  have hgone : (x.entry x.ownAddr).moveTo .absent = s.own.gone := by
    rw [← Entry.moveTo_absent_eq_gone h, State.entry, haddr, hv]
    rfl
  rw [State.moveEntry_eq, hgone, haddr, if_neg (by exact Bool.noConfusion), hv, eraseAddr_zero]
  rfl

/-- The six steps of a departure from a state other than ABSENT (R62). -/
theorem State.depart_eq {s : State} (h : s.own.state ≠ .absent) : s.depart = { s with
    pt := s.pt.disarmed
    cm := { s.cm with service := 0 }
    vu := { (s.setEntry s.hp.address s.own.gone).vu with hostAccused := 0, leavePending := true }
    hp := (s.postAll (eventIf (s.own.state = .joining) (.joinFailed .withdrawn))).hp } := by
  rw [State.postAll_eventIf]
  unfold State.depart
  dsimp only
  by_cases hj : s.own.state = .joining
  · rw [if_pos hj, if_pos (by exact hj), State.moveEntry_own_gone h]
    exacts [rfl, rfl, s.post_address _]
  · rw [if_neg hj, if_neg (by exact hj), State.moveEntry_own_gone h]
    exacts [rfl, rfl, rfl]

/-- Settles O26, by the state of the own entry: the departure of R62, then the answer. -/
theorem leaveAnswered : Obligations.LeaveAnswered := by
  intro s hp hc
  have hexec : exec .leave s = .next s.leaveBody := congrArg Host.Outcome.next (State.takeIn_ifConfigured hp hc _)
  refine ⟨fun h => ?_, fun h => ?_⟩
  · rw [hexec, State.leaveBody]
    rcases h with h | h <;> rw [h] <;> rfl
  · have hbody : s.leaveBody = s.depart.answer .ok [] := by
      rw [State.leaveBody]
      rcases h with h | h | h <;> rw [h]
    have hgone : s.own.state ≠ .absent := by rcases h with h | h | h <;> rw [h] <;> decide
    rw [hexec, hbody, State.depart_eq hgone, State.postAll_eventIf, apply_ite State.hp]
    rfl

/-! ### The external host reset (R120) -/

/-- The part once an external host reset has been taken and posted, before the own entry departs (R120). -/
def State.hostResetSeen (s : State) : State :=
  { s with ru := { s.ru with rstLatched := true }, hp := (s.post .hostResetSeen).hp }

theorem State.hostResetSeen_own (s : State) : s.hostResetSeen.own = s.own := State.own_of rfl (s.post_address .hostResetSeen)

/-- An external host reset that is taken leaves an ABSENT own entry and lets a JOINING, MEMBER or SUSPECT one depart (R66, R120). -/
theorem exec_externalHostReset_taken {s : State} (hi : s.ru.state = .idle) (hl : s.ru.rstLatched = false) :
    (s.own.state = .absent → exec (.externalHostReset true) s = .next s.hostResetSeen) ∧
    (s.own.state = .joining ∨ s.own.state = .member ∨ s.own.state = .suspect →
      exec (.externalHostReset true) s = .next s.hostResetSeen.depart) := by
  have hexec : exec (.externalHostReset true) s = .next (match s.hostResetSeen.own.state with
      | .joining | .member | .suspect => s.hostResetSeen.depart
      | .absent | .recovering => s.hostResetSeen) := by
    refine congrArg Host.Outcome.next ?_
    rw [if_pos hi, hl]
    rfl
  rw [hexec, s.hostResetSeen_own]
  refine ⟨fun h => by rw [h], fun h => ?_⟩
  rcases h with h | h | h <;> rw [h]

/-- Settles O58, by the tests of R120: the reset state, the assertion that was taken before, the own entry. -/
theorem externalReset : Obligations.ExternalReset := by
  intro s ru
  refine ⟨rfl, fun h _ => congrArg Host.Outcome.next (if_neg h), fun h hl => ?_, fun h => ?_, fun h hl => ?_⟩
  · refine congrArg Host.Outcome.next ?_
    rw [if_pos h, hl]
    rfl
  · exact congrArg Host.Outcome.next (if_pos h)
  · obtain ⟨habsent, hdeparts⟩ := exec_externalHostReset_taken h hl
    refine ⟨habsent, fun hj => ?_⟩
    have hgone : s.hostResetSeen.own.state ≠ .absent := by
      rw [s.hostResetSeen_own]
      rcases hj with hj | hj | hj <;> rw [hj] <;> decide
    have hposts := State.postAll_frame (x := s.hostResetSeen) (y := s.post .hostResetSeen) rfl rfl
    have haddr : s.hostResetSeen.hp.address = s.hp.address := s.post_address _
    rw [hdeparts hj, State.depart_eq hgone, s.hostResetSeen_own, hposts, haddr]
    rfl

/-! ### JOIN (R49, R50, R116) -/

theorem State.mayJoin_iff (s : State) : s.mayJoin = true ↔ (s.lu.state = .synced ∨ s.lu.state = .active) ∧
    (s.own.state = .absent ∨ s.own.state = .recovering) ∧ (s.ru.state = .idle ∨ s.ru.state = .waiting) := by
  simp only [State.mayJoin, Bool.and_eq_true, Bool.or_eq_true, beq_iff_eq, State.online_iff, and_assoc]

/-- The rejoining of a host touches the Reset Unit and the queue alone (R116). -/
theorem State.rejoin_eq (s : State) : s.rejoin = { s with
    ru := if s.ru.state = .waiting then
        { s.ru with state := .idle, recovery := 0, confirmed := false, attempt := 0, rstout := false }
      else s.ru
    hp := if s.ru.state = .waiting then (s.post (.attemptEnd .rejoined s.ru.attempt)).hp else s.hp } := by
  unfold State.rejoin
  by_cases h : s.ru.state = .waiting
  · simp only [if_pos h]
    rfl
  · simp only [if_neg h]

/-- Settles O25, by the test of R49: the joined entry, then the end of the attempt, then the answer. -/
theorem joinAnswered : Obligations.JoinAnswered := by
  intro s hp hc accepted
  have hexec : exec .join s = .next s.joinBody := congrArg Host.Outcome.next (State.takeIn_ifConfigured hp hc _)
  refine ⟨fun h => ?_, fun i hi h => ?_⟩
  · rw [hexec, State.joinBody, if_neg (fun hm => h (s.mayJoin_iff.1 hm))]
    rfl
  · have hinc : s.ownIncarnation = i := congrArg (fun o : Option Byte => o.getD 0) hi
    rw [hexec, State.joinBody, if_pos (s.mayJoin_iff.2 h), hinc]
    dsimp only
    rw [State.rejoin_eq, State.modifyEntry, Entry.startJoining, Entry.moveTo_of_ne (by decide)]
    rfl

end Sys2Proof.Machine
end

section
/-! SUPPORT. The output pins through every operation, for each operation one lemma that says it moves a pin with the item that the pin follows; and the
statements that every step keeps the line and the pins. -/

namespace Sys2Proof.Machine

/-- Settles O10, by the operations that a step is made of: each keeps the line (KeepsForm). -/
theorem stepKeepsLine : Obligations.StepKeepsLine := fun _ _ hl h => (step_keepsAll h).line hl

/-! ### What an operation does to the pins (R76, R100, R108, R163) -/

/-- Everything that PinsFollow reads: each pin and the item it follows. -/
def State.pins (s : State) : (Bool × LineState) × (Bool × TimerState) × (Bool × ResetState) × (Bool × List EventRecord) :=
  ((s.lu.att, s.lu.state), (s.pt.warn, s.pt.state), (s.ru.rstout, s.ru.state), (s.hp.int, s.hp.queue))

/-- The pins follow their states in the second state, where they did in the first. -/
def KeepsPins (s t : State) : Prop := PinsFollow s → PinsFollow t

theorem KeepsPins.refl (s : State) : KeepsPins s s := id

theorem KeepsPins.trans {r s t : State} (h : KeepsPins r s) (k : KeepsPins s t) : KeepsPins r t := k ∘ h

theorem KeepsPins.of_pins {s t : State} (h : t.pins = s.pins) : KeepsPins s t := by
  simp only [State.pins, Prod.mk.injEq] at h
  obtain ⟨⟨h1, h2⟩, ⟨h3, h4⟩, ⟨h5, h6⟩, h7, h8⟩ := h
  exact fun hs => ⟨by rw [h1, h2]; exact hs.att, by rw [h3, h4]; exact hs.warn, by rw [h5, h6]; exact hs.rstout,
    by rw [h7, h8]; exact hs.int⟩

/-- An operation after an edit that the pins do not see. -/
theorem KeepsPins.edited {r s t : State} (k : KeepsPins s t) (h : s.pins = r.pins) : KeepsPins r t := (of_pins h).trans k

/-- The View Unit holds no pin and no item that one follows. -/
theorem KeepsPins.setView (s : State) (v : ViewUnit) : KeepsPins s { s with vu := v } := .of_pins rfl

theorem KeepsPins.ite {c : Prop} [Decidable c] {s t u : State} (ht : c → KeepsPins s t) (hu : ¬ c → KeepsPins s u) :
    KeepsPins s (if c then t else u) := by
  by_cases h : c
  · rw [if_pos h]; exact ht h
  · rw [if_neg h]; exact hu h

/-- A fold of operations keeps the pins where each of them does. -/
theorem KeepsPins.foldl {f : State → Addr → State} (hf : ∀ t a, KeepsPins t (f t a)) (l : List Addr) (s : State) :
    KeepsPins s (l.foldl f s) :=
  foldl_keeps (KeepsPins s) f (fun t a h => h.trans (hf t a)) l s (.refl s)

/-- ATT and the line state change together (R76). -/
theorem KeepsPins.setLine {s : State} {l : LineUnit} (h : PinsFollow s → (l.att = true ↔ l.state = .active)) :
    KeepsPins s { s with lu := l } :=
  fun hs => ⟨h hs, hs.warn, hs.rstout, hs.int⟩

/-- WARN and the Prompt Timer's state change together (R100). -/
theorem KeepsPins.setTimer {s : State} {p : PromptTimer} (h : p.warn = true ↔ p.state = .warned ∨ p.state = .lapsed) :
    KeepsPins s { s with pt := p } :=
  fun hs => ⟨hs.att, h, hs.rstout, hs.int⟩

/-- RSTOUT and the reset state change together (R108). -/
theorem KeepsPins.setReset {s : State} {r : ResetUnit} (h : r.rstout = true ↔ r.state = .pulsing ∨ r.state = .held) :
    KeepsPins s { s with ru := r } :=
  fun hs => ⟨hs.att, hs.warn, h, hs.int⟩

/-- INT and the queue change together (R163). -/
theorem KeepsPins.setPort {s : State} {h : HostPort} (hi : PinsFollow s → (h.int = true ↔ h.queue ≠ [])) :
    KeepsPins s { s with hp := h } :=
  fun hs => ⟨hs.att, hs.warn, hs.rstout, hi hs⟩

theorem HostPort.enqueue_int {h : HostPort} (hi : h.int = true ↔ h.queue ≠ []) (r : EventRecord) :
    (h.enqueue r).int = true ↔ (h.enqueue r).queue ≠ [] := by
  rcases h.enqueue_cases r with ⟨-, he⟩ | ⟨-, -, he⟩ | ⟨-, -, he⟩ | ⟨-, -, he⟩ <;> rw [he]
  · exact hi
  all_goals simp

theorem KeepsPins.post (e : Event) (s : State) : KeepsPins s (s.post e) := by
  refine .setPort fun hs => ?_
  split
  · exact HostPort.enqueue_int hs.int _
  · exact hs.int

/-! ### The Peer Table and the frames -/

theorem KeepsPins.moveEntry (a : Addr) (f : Entry → Entry) (s : State) : KeepsPins s (s.moveEntry a f) :=
  .ite (fun _ => .of_pins rfl) (fun _ => .of_pins rfl)

theorem KeepsPins.countAccusations (k : Addr) (x : AddrSet) (s : State) : KeepsPins s (s.countAccusations k x) :=
  .ite (fun _ => .of_pins rfl) (fun _ => .refl s)

theorem KeepsPins.suspect (j : Addr) (c : SuspectCause) (s : State) : KeepsPins s (s.suspect j c) :=
  .ite (fun _ => .edited (.post _ _) rfl) (fun _ => .refl s)

theorem KeepsPins.testEvidence (j : Addr) (s : State) : KeepsPins s (s.testEvidence j) :=
  .ite (fun _ => .suspect j _ s) (fun _ => .refl s)

theorem KeepsPins.postChanges (k : Addr) (old : Entry) (f : FrameBody) (s : State) : KeepsPins s (s.postChanges k old f) := by
  have hflags : KeepsPins s (if old.flags ≠ f.flags then s.post (.condition k f.flags) else s) :=
    .ite (fun _ => .post _ s) (fun _ => .refl s)
  exact .ite (fun _ => hflags.trans (.post _ _)) (fun _ => hflags)

theorem KeepsPins.compareView (k : Addr) (f : FrameBody) (posts : Bool) (s : State) : KeepsPins s (s.compareView k f posts) :=
  .ite (fun _ => .ite (fun _ => .edited (.post _ _) rfl) (fun _ => .of_pins rfl)) (fun _ => .refl s)

theorem KeepsPins.takeAccusations (k : Addr) (f : FrameBody) (s : State) : KeepsPins s (s.takeAccusations k f) :=
  .trans (.ite (fun _ => .foldl (fun t j => .ite (fun _ => .suspect j _ t) (fun _ => .refl t)) _ s) (fun _ => .refl s))
    (.countAccusations k _ _)

theorem KeepsPins.adoptFrame (kind : FrameKind) (k : Addr) (f : FrameBody) (s : State) : KeepsPins s (s.adoptFrame kind k f) :=
  .ite (fun _ => ((KeepsPins.moveEntry k _ s).trans (.compareView k f false _)).trans (.countAccusations k _ _))
    (fun _ => .moveEntry k _ s)

theorem KeepsPins.restartedEntry (k : Addr) (f : FrameBody) (s : State) : KeepsPins s (s.restartedEntry k f) :=
  (KeepsPins.moveEntry k _ s).trans (.post _ _)

theorem KeepsPins.heldEntry (k : Addr) (f : FrameBody) (s : State) : KeepsPins s (s.heldEntry k f) :=
  (KeepsPins.moveEntry k _ s).trans (.post _ _)

theorem KeepsPins.admitPeer (k : Addr) (f : FrameBody) (s : State) : KeepsPins s (s.admitPeer k f) :=
  ((KeepsPins.setView s _).trans (.post _ _)).trans (.testEvidence k _)

theorem KeepsPins.announceFromAbsent (k : Addr) (f : FrameBody) (s : State) : KeepsPins s (s.announceFromAbsent k f) :=
  .ite (fun _ => .of_pins rfl) (fun _ => .ite (fun _ => .of_pins rfl) (fun _ => .edited (.post _ _) rfl))

theorem KeepsPins.announceFromJoining (k : Addr) (f : FrameBody) (s : State) : KeepsPins s (s.announceFromJoining k f) := by
  refine .ite (fun _ => .restartedEntry k f s) (fun _ => ?_)
  split
  · exact .heldEntry k f s
  · exact .moveEntry k _ s
  all_goals exact .admitPeer k f s

theorem KeepsPins.announceFromMember (k : Addr) (f : FrameBody) (s : State) : KeepsPins s (s.announceFromMember k f) := by
  refine .ite (fun _ => .restartedEntry k f s) (fun _ => .ite (fun _ => .heldEntry k f s) (fun _ => ?_))
  have reported : KeepsPins s ((s.modifyEntry k (fun e => (e.recordIncarnation f).report f)).postChanges k (s.entry k) f) :=
    .edited (.postChanges k _ f _) rfl
  exact ((reported.trans (.testEvidence k _)).trans (.compareView k f true _)).trans (.takeAccusations k f _)

theorem KeepsPins.applyAnnounce (k : Addr) (f : FrameBody) (s : State) : KeepsPins s (s.applyAnnounce k f) := by
  unfold State.applyAnnounce
  cases (s.entry k).state with
  | absent => exact .announceFromAbsent k f s
  | joining => exact .announceFromJoining k f s
  | member => exact .announceFromMember k f s
  | suspect => exact .announceFromMember k f s
  | recovering => exact .announceFromMember k f s

theorem KeepsPins.countJoin (k : Addr) (f : FrameBody) (s : State) : KeepsPins s (s.countJoin k f) :=
  .ite (fun _ => .admitPeer k f s) (fun _ => .edited (.postChanges k _ f _) rfl)

theorem KeepsPins.restartPeer (k : Addr) (f : FrameBody) (s : State) : KeepsPins s (s.restartPeer k f) :=
  ((KeepsPins.moveEntry k _ s).trans (.postChanges k _ f _)).trans (.post _ _)

theorem KeepsPins.applyJoin (k : Addr) (f : FrameBody) (s : State) : KeepsPins s (s.applyJoin k f) := by
  have begun : KeepsPins s (s.beginAdmission k f) := .moveEntry k _ s
  unfold State.applyJoin
  cases (s.entry k).state with
  | absent => exact begun
  | recovering => exact begun.trans (.postChanges k _ f _)
  | joining => exact .ite (fun _ => begun.trans (.postChanges k _ f _)) (fun _ => .countJoin k f s)
  | member => exact .restartPeer k f s
  | suspect => exact .restartPeer k f s

theorem KeepsPins.applyLeave (k : Addr) (f : FrameBody) (s : State) : KeepsPins s (s.applyLeave k f) :=
  .ite (fun _ => .moveEntry k _ s) (fun _ => (KeepsPins.moveEntry k _ s).trans (.post _ _))

theorem KeepsPins.applyFrame (kind : FrameKind) (k : Addr) (f : FrameBody) (s : State) : KeepsPins s (s.applyFrame kind k f) := by
  have heard : KeepsPins s (s.modifyEntry k (Entry.hear f)) := .of_pins rfl
  refine .ite (fun _ => heard.trans (.adoptFrame kind k f _)) (fun _ => heard.trans ?_)
  cases kind with
  | announce => exact .applyAnnounce k f _
  | join => exact .applyJoin k f _
  | leave => exact .applyLeave k f _

theorem KeepsPins.applyForeign (k : Addr) (d : Word16) (s : State) : KeepsPins s (s.applyForeign k d) := by
  have seen : KeepsPins s (if (s.entry k).mismatchSeen then s
      else (s.modifyEntry k (fun e => { e with mismatchSeen := true })).post (.profileMismatch k d)) :=
    .ite (fun _ => .refl s) (fun _ => .edited (.post _ _) rfl)
  exact .ite (fun _ => seen.trans (.of_pins rfl)) (fun _ => seen)

/-- Adopting a round number leaves ATT and the line state (R89). -/
theorem LineUnit.adoptRound_att_state (l : LineUnit) (n : Word16) :
    (l.adoptRound n).att = l.att ∧ (l.adoptRound n).state = l.state := by
  unfold LineUnit.adoptRound
  split <;> exact ⟨rfl, rfl⟩

theorem KeepsPins.takeFrame (kind : FrameKind) (k : Addr) (f : FrameBody) (s : State) : KeepsPins s (s.takeFrame kind k f) := by
  obtain ⟨hatt, hstate⟩ := s.lu.adoptRound_att_state f.round
  have adopted : PinsFollow s → ((s.lu.adoptRound f.round).att = true ↔ (s.lu.adoptRound f.round).state = .active) := by
    rw [hatt, hstate]; exact PinsFollow.att
  refine .ite (fun _ => .edited (.applyForeign k _ _) rfl) (fun _ => .ite (fun _ => ?_) (fun _ => ?_))
  · exact .trans (.setLine adopted) (.of_pins rfl)
  · exact .trans (.setLine adopted) (.edited (.applyFrame kind k f _) rfl)

theorem KeepsPins.closeSlot (k : Addr) (r : Reception) (s : State) : KeepsPins s (s.closeSlot k r) := by
  refine .ite (fun _ => ?_) (fun _ => .refl s)
  cases r with
  | silent => exact .of_pins rfl
  | garbled => exact .of_pins rfl
  | frame kind body => exact .edited (.takeFrame kind k body _) rfl

theorem KeepsPins.composeOwn (s : State) : KeepsPins s s.composeOwn := by
  have reported : KeepsPins s s.recordOwnReport := .setView s _
  exact (reported.trans (.setView _ _)).trans (.trans (.ite (fun _ => .suspect _ .self _) (fun _ => .refl _)) (.countAccusations _ _ _))

theorem KeepsPins.startOwnSlot (s : State) : KeepsPins s s.startOwnSlot :=
  .ite (fun _ => (KeepsPins.composeOwn s).trans (.of_pins rfl)) (fun _ => .refl s)

theorem KeepsPins.reportWhole (s : State) : KeepsPins s s.reportWhole := by
  unfold State.reportWhole
  cases s.lu.ownFrame with
  | none => exact .refl s
  | some fr => exact .ite (fun _ => .of_pins rfl) (fun _ => .of_pins rfl)

theorem KeepsPins.endOwnSlot (clean : Bool) (s : State) : KeepsPins s (s.endOwnSlot clean) :=
  .ite (fun _ => .ite (fun _ => .ite (fun _ => .edited (.reportWhole _) rfl) (fun _ => .of_pins rfl)) (fun _ => .of_pins rfl))
    (fun _ => .refl s)

theorem KeepsPins.startField (s : State) : KeepsPins s s.startField :=
  .ite (fun _ => .of_pins rfl) (fun _ => .refl s)

/-! ### The Prompt Timer and the Reset Unit -/

theorem KeepsPins.warnTimer (s : State) : KeepsPins s s.warnTimer :=
  .ite (fun _ => .trans (.setTimer (by simp)) (.post _ _)) (fun _ => .refl s)

theorem KeepsPins.lapseTimer (s : State) : KeepsPins s s.lapseTimer :=
  .ite (fun _ => .trans (.setTimer (by simp)) (.post _ _)) (fun _ => .refl s)

theorem KeepsPins.disarmTimer (s : State) : KeepsPins s s.disarmTimer := .setTimer (by simp)

theorem KeepsPins.armTimer (s : State) : KeepsPins s s.armTimer := .setTimer (by simp)

theorem KeepsPins.startAttempt (s : State) : KeepsPins s s.startAttempt := .trans (.setReset (by simp)) (.post _ _)

theorem KeepsPins.endPulse (s : State) : KeepsPins s s.endPulse :=
  .ite (fun _ => .trans (.setReset (by simp)) (.post _ _)) (fun _ => .refl s)

theorem KeepsPins.hold (s : State) : KeepsPins s s.hold :=
  .trans (.trans (.setReset (by simp)) (.post _ _)) (.moveEntry _ _ _)

theorem KeepsPins.endWindow (s : State) : KeepsPins s s.endWindow := .ite (fun _ => .startAttempt s) (fun _ => .hold s)

theorem KeepsPins.countRecoveryRound (s : State) : KeepsPins s s.countRecoveryRound :=
  .ite (fun _ => .ite (fun _ => .endWindow s) (fun _ => .of_pins rfl)) (fun _ => .refl s)

theorem KeepsPins.rejoin (s : State) : KeepsPins s s.rejoin :=
  .ite (fun _ => .trans (.trans (.setReset (by simp)) (.post _ _)) (.of_pins rfl)) (fun _ => .refl s)

theorem KeepsPins.releaseHost (s : State) : KeepsPins s s.releaseHost := .trans (.setReset (by simp)) (.post _ _)

theorem KeepsPins.releaseIfRequested (s : State) : KeepsPins s s.releaseIfRequested :=
  .ite (fun _ => .releaseHost s) (fun _ => .refl s)

theorem KeepsPins.postLeaving (e : Event) (s : State) : KeepsPins s (s.postLeaving e) :=
  .ite (fun _ => (KeepsPins.releaseIfRequested s).trans (.post e _)) (fun _ => (KeepsPins.post e s).trans (.releaseIfRequested _))

theorem KeepsPins.depart (s : State) : KeepsPins s s.depart := by
  have cleared : KeepsPins s { s.disarmTimer with vu := { s.vu with hostAccused := 0 }, cm := { s.cm with service := 0 } } :=
    (KeepsPins.disarmTimer s).trans (.of_pins rfl)
  exact ((cleared.trans (.ite (fun _ => .post _ _) (fun _ => .refl _))).trans (.moveEntry _ _ _)).trans (.setView _ _)

/-! ### The round end -/

theorem KeepsPins.accountMiss (j : Addr) (s : State) : KeepsPins s (s.accountMiss j) := by
  refine .ite (fun _ => .refl s) (fun _ => ?_)
  have missed : KeepsPins s (s.modifyEntry j (fun e => { e with missCount := satAdd Config.missMax e.missCount })) := .setView s _
  refine missed.trans (.ite (fun _ => .refl _) (fun _ => ?_))
  generalize s.modifyEntry j (fun e => { e with missCount := satAdd Config.missMax e.missCount }) = x
  have gone (e : Event) : KeepsPins x ((x.moveEntry j (Entry.moveTo .absent)).post e) :=
    (KeepsPins.moveEntry j _ x).trans (.post e _)
  cases (x.entry j).state with
  | recovering => exact gone _
  | joining => exact gone _
  | member => exact .testEvidence j x
  | suspect => exact .testEvidence j x
  | absent => exact .testEvidence j x

theorem KeepsPins.condemnPeer (j : Addr) (s : State) : KeepsPins s (s.condemnPeer j) :=
  (KeepsPins.moveEntry j _ s).trans (.post _ _)

theorem KeepsPins.condemnOwn (s : State) : KeepsPins s s.condemnOwn :=
  (((KeepsPins.setView s _).trans (.post _ _)).trans (.disarmTimer _)).trans (.edited (.startAttempt _) rfl)

theorem KeepsPins.splitEntry (j : Addr) (s : State) : KeepsPins s (s.splitEntry j) :=
  ((KeepsPins.suspect j .split s).trans (.setView _ _)).trans (.post _ _)

theorem KeepsPins.clearEntry (j : Addr) (s : State) : KeepsPins s (s.clearEntry j) :=
  .ite (fun _ => (KeepsPins.setView s _).trans (.post _ _)) (fun _ => .refl s)

theorem KeepsPins.applyVerdict (c k : AddrSet) (j : Addr) (s : State) : KeepsPins s (s.applyVerdict c k j) := by
  have ended : KeepsPins s (s.endSplits j) := .setView s _
  unfold State.applyVerdict
  cases verdictOf c k j with
  | none => exact ended.trans (.clearEntry j _)
  | clear => exact ended.trans (.clearEntry j _)
  | split => exact .ite (fun _ => .splitEntry j s) (fun _ => .refl s)
  | condemn => exact .ite (fun _ => .ite (fun _ => .condemnOwn s) (fun _ => .condemnPeer j s)) (fun _ => ended)

theorem KeepsPins.completeAdmission (s : State) : KeepsPins s s.completeAdmission := by
  have admitted : KeepsPins s (s.modifyEntry s.ownAddr (Entry.moveTo .member)).armTimer := (KeepsPins.setView s _).trans (.armTimer _)
  have tested (x : State) : KeepsPins x (allAddrs.foldl (fun t j => t.testEvidence j) x) := .foldl (fun t j => .testEvidence j t) _ x
  exact .trans (admitted.trans (.post (.joinDone (s.modifyEntry s.ownAddr (Entry.moveTo .member)).armTimer.ownIncarnation) _)) (tested _)

theorem KeepsPins.admissionStep (s : State) : KeepsPins s s.admissionStep :=
  .ite
    (fun _ => .ite (fun _ => (KeepsPins.moveEntry _ _ s).trans (.post _ _))
      (fun _ => .ite (fun _ => .ite (fun _ => .completeAdmission s) (fun _ => .setView s _)) (fun _ => .refl s)))
    (fun _ => .refl s)

theorem KeepsPins.roundEndWork (resynced : Bool) (s : State) : KeepsPins s (s.roundEndWork resynced) := by
  have missed : KeepsPins s (if resynced then s else allAddrs.foldl (fun t j => t.accountMiss j) s) :=
    .ite (fun _ => .refl s) (fun _ => .foldl (fun t j => .accountMiss j t) allAddrs s)
  exact (missed.trans (.foldl (fun t j => .applyVerdict _ _ j t) allAddrs _)).trans (.admissionStep _)

theorem KeepsPins.resync (s : State) : KeepsPins s s.resync := by
  unfold State.resync
  cases s.lu.resyncNumber with
  | none => exact .refl s
  | some x => exact .edited (.post _ _) rfl

theorem KeepsPins.endRound (condemn clear : AddrSet) (s : State) : KeepsPins s (s.endRound condemn clear) := by
  refine .ite (fun _ => ?_) (fun _ => .refl s)
  have sampled : KeepsPins s (State.sampleField condemn clear { s with lu := { s.lu with pos := .rest, driving := .nothing } }) :=
    .of_pins rfl
  have checked (x : State) : KeepsPins x
      (if x.releaseDue && Config.releaseBeforeResync then x.releaseIfRequested.resync else x.resync) :=
    .ite (fun _ => (KeepsPins.releaseIfRequested x).trans (.resync _)) (fun _ => .resync x)
  exact (sampled.trans (checked _)).trans
    (.ite (fun _ => (KeepsPins.releaseIfRequested _).trans (.roundEndWork _ _))
      (fun _ => (KeepsPins.roundEndWork _ _).trans (.releaseIfRequested _)))

/-! ### Entering and leaving the rounds -/

theorem KeepsPins.leaveRounds {st : LineState} (h : st ≠ .active) (s : State) : KeepsPins s (s.leaveRounds st) :=
  .trans (.setLine fun _ => by simp [h]) (.setView _ _)

theorem KeepsPins.restartMeasurement (s : State) : KeepsPins s s.restartMeasurement :=
  .ite (fun _ => .of_pins rfl) (fun _ => .refl s)

theorem KeepsPins.stickLine (s : State) : KeepsPins s s.stickLine :=
  .ite (fun _ => (KeepsPins.leaveRounds (st := .listening) (by decide) s).trans (.edited (.postLeaving _ _) rfl)) (fun _ => .restartMeasurement s)

theorem KeepsPins.withdrawBlocked (s : State) : KeepsPins s s.withdrawBlocked := by
  have left : KeepsPins s (s.moveEntry s.ownAddr (Entry.moveTo .absent)) := .moveEntry _ _ s
  exact ((left.trans (.ite (fun _ => .post _ _) (fun _ => .refl _))).trans (.disarmTimer _)).trans (.setView _ _)

theorem KeepsPins.takeCollision (s : State) : KeepsPins s s.takeCollision :=
  .ite (fun _ => ((KeepsPins.withdrawBlocked s).trans (.leaveRounds (st := .blocked) (by decide) _)).trans (.postLeaving _ _)) (fun _ => .refl s)

theorem KeepsPins.releaseLine (s : State) : KeepsPins s s.releaseLine :=
  .ite (fun _ => (KeepsPins.post _ s).trans (.of_pins rfl)) (fun _ => .refl s)

/-- A round beginning sets ATT by the same test as the line state (R79). -/
theorem KeepsPins.startRound (d : Driving) (fresh : Bool) (s : State) : KeepsPins s (s.startRound d fresh).formVoters := by
  refine .trans (.setLine fun _ => ?_) (.setView _ _)
  dsimp only
  cases s.announces <;> simp

theorem KeepsPins.beginRound (d : Driving) (s : State) : KeepsPins s (s.beginRound d) :=
  (KeepsPins.startRound d false s).trans (.countRecoveryRound _)

theorem KeepsPins.enterSynced (d : Driving) (w : WayOfEntry) (s : State) : KeepsPins s (s.enterSynced d w) :=
  (KeepsPins.startRound d true s).trans
    (.ite (fun _ => (KeepsPins.countRecoveryRound _).trans (.post _ _)) (fun _ => (KeepsPins.post _ _).trans (.countRecoveryRound _)))

theorem KeepsPins.takeMark (s : State) : KeepsPins s s.takeMark :=
  .ite (fun _ => .ite (fun _ => .beginRound _ s) (fun _ => .refl s))
    (fun _ => .ite (fun _ => .enterSynced _ _ s) (fun _ => .restartMeasurement s))

theorem KeepsPins.expireRoundTimer (s : State) : KeepsPins s s.expireRoundTimer :=
  .ite (fun _ => .beginRound _ s) (fun _ => .refl s)

theorem KeepsPins.expireListenWindow (s : State) : KeepsPins s s.expireListenWindow :=
  .ite (fun _ => .enterSynced _ _ s) (fun _ => .refl s)

/-! ### The host port -/

theorem KeepsPins.answerWith (st : Status) (data : List Byte) (adv : Option Advance) (s : State) :
    KeepsPins s (s.answerWith st data adv) := .of_pins rfl

theorem KeepsPins.takeIn {f : State → State} {s : State} (h : KeepsPins s (f s)) : KeepsPins s (s.takeIn f) :=
  .ite (fun _ => h) (fun _ => .refl s)

theorem KeepsPins.ifConfigured {f : State → State} {s : State} (h : KeepsPins s (f s)) : KeepsPins s (s.ifConfigured f) :=
  .ite (fun _ => h) (fun _ => .answerWith _ _ _ s)

/-- Power-on and RESTART release every pin (R94, R95, R107, R154). -/
theorem PinsFollow.of_fresh {t : State} {b : Bool} (hl : t.lu = LineUnit.reset) (hp : t.pt = PromptTimer.reset)
    (hr : t.ru = ResetUnit.reset b) (hi : t.hp.int = false) (hq : t.hp.queue = []) : PinsFollow t := by
  constructor
  · simp [hl, LineUnit.reset]
  · simp [hp, PromptTimer.reset]
  · simp [hr, ResetUnit.reset]
  · simp [hi, hq]

/-- An accepted CONFIGURE finds the line DETACHED, so that ATT is released before and after it (R143, R146). -/
theorem KeepsPins.configureBody {s : State} (hl : LineConsistent s) (r : ConfigRecord) : KeepsPins s (s.configureBody r) := by
  refine .ite (fun _ => .answerWith _ _ _ s) (fun hc => .ite (fun _ => .answerWith _ _ _ s) (fun _ => ?_))
  have hdet : s.lu.state = .detached := hl.configured.1 (by simpa [State.configured] using hc)
  exact .trans (.setLine fun hs => by simpa [hdet] using hs.att) (.of_pins rfl)

theorem KeepsPins.restartBody (s : State) : KeepsPins s s.restartBody :=
  .ite (fun _ _ => .of_fresh rfl rfl rfl rfl rfl) (fun _ => .answerWith _ _ _ s)

theorem KeepsPins.joinBody (s : State) : KeepsPins s s.joinBody :=
  .ite (fun _ => ((KeepsPins.setView s _).trans (.edited (.rejoin _) rfl)).trans (.answerWith _ _ _ _)) (fun _ => .answerWith _ _ _ s)

theorem KeepsPins.leaveBody (s : State) : KeepsPins s s.leaveBody := by
  unfold State.leaveBody
  cases s.own.state with
  | absent => exact .answerWith _ _ _ s
  | recovering => exact .answerWith _ _ _ s
  | joining => exact (KeepsPins.depart s).trans (.answerWith _ _ _ _)
  | member => exact (KeepsPins.depart s).trans (.answerWith _ _ _ _)
  | suspect => exact (KeepsPins.depart s).trans (.answerWith _ _ _ _)

theorem KeepsPins.accuseBody (a : Byte) (s : State) : KeepsPins s (s.accuseBody a) := by
  unfold State.accuseBody
  cases addrOfByte a with
  | none => exact .answerWith _ _ _ s
  | some j =>
    refine .ite (fun _ => .answerWith _ _ _ s) (fun _ => .ite (fun _ => ?_) (fun _ => .answerWith _ _ _ s))
    exact (KeepsPins.setView s _).trans (.trans (.ite (fun _ => .refl _) (fun _ => .testEvidence j _)) (.answerWith _ _ _ _))

theorem KeepsPins.pardonBody (a : Byte) (s : State) : KeepsPins s (s.pardonBody a) := by
  unfold State.pardonBody
  cases addrOfByte a with
  | none => exact .answerWith _ _ _ s
  | some j => exact .of_pins rfl

theorem KeepsPins.promptBody (n : Byte) (s : State) : KeepsPins s (s.promptBody n) := by
  have prompted : KeepsPins s
      (if n = s.pt.expected then
        { s with pt := { state := .running, remaining := s.promptPeriod, expected := n + 1, warn := false } }.answer .ok [n + 1]
      else s.answer .refusedSeq [s.pt.expected]) :=
    .ite (fun _ => .trans (.setTimer (by simp)) (.answerWith _ _ _ _)) (fun _ => .answerWith _ _ _ s)
  unfold State.promptBody
  cases s.pt.state with
  | disarmed => exact .answerWith _ _ _ s
  | lapsed => exact .answerWith _ _ _ s
  | running => exact prompted
  | warned => exact prompted

theorem KeepsPins.readEventBody (s : State) : KeepsPins s s.readEventBody := by
  unfold State.readEventBody
  cases s.hp.queue with
  | nil => exact .answerWith _ _ _ s
  | cons r rest => exact .answerWith _ _ _ s

theorem KeepsPins.readEntryBody (s : State) : KeepsPins s s.readEntryBody := by
  unfold State.readEntryBody
  cases s.hp.snapshot with
  | none => exact .answerWith _ _ _ s
  | some c => exact .answerWith _ _ _ s

theorem KeepsPins.snapshotBody (s : State) : KeepsPins s s.snapshotBody := by
  unfold State.snapshotBody
  cases s.hp.snapshot with
  | some c => exact .answerWith _ _ _ s
  | none => exact .of_pins rfl

theorem KeepsPins.runHostCommand {s : State} (hl : LineConsistent s) (c : HostCommand) : KeepsPins s (s.runHostCommand c) := by
  cases c with
  | status => exact .answerWith _ _ _ s
  | configure r => exact .configureBody hl r
  | restart => exact .restartBody s
  | join => exact .ifConfigured (.joinBody s)
  | leave => exact .ifConfigured (.leaveBody s)
  | accuse a => exact .ifConfigured (.accuseBody a s)
  | pardon a => exact .ifConfigured (.pardonBody a s)
  | prompt n => exact .ifConfigured (.promptBody n s)
  | publish w => exact .ifConfigured (.of_pins rfl)
  | snapshot => exact .ifConfigured (.snapshotBody s)
  | readEntry => exact .ifConfigured (.readEntryBody s)
  | discardSnapshot => exact .ifConfigured (.of_pins rfl)
  | readEvent => exact .ifConfigured (.readEventBody s)

theorem KeepsPins.takeFrameBits {s : State} (hl : LineConsistent s) (sdi : List Bool) : KeepsPins s (s.takeFrameBits sdi) := by
  unfold State.takeFrameBits State.takeFrameBytes
  cases checkFrame (bytesOfBits sdi) with
  | incomplete => exact .refl s
  | badCheck => exact .answerWith _ _ _ s
  | badCommand => exact .answerWith _ _ _ s
  | good c => exact .runHostCommand hl c

/-- INT is released with the last record (R161, R163). -/
theorem HostPort.removeHead_int (h : HostPort) : h.removeHead.int = true ↔ h.removeHead.queue ≠ [] := by
  simp [HostPort.removeHead]

theorem KeepsPins.deliver (s : State) : KeepsPins s s.deliver := by
  refine .ite (fun _ => .setPort fun hs => ?_) (fun _ => .refl s)
  cases s.hp.advance with
  | none => exact hs.int
  | some adv =>
    cases adv with
    | event => exact s.hp.removeHead_int
    | entry => simpa using hs.int

/-! ### Every step -/

theorem KeepsPins.externalReset (b : Bool) (s : State) : ∃ t, exec (.externalHostReset b) s = .next t ∧ KeepsPins s t := by
  refine ⟨_, rfl, .ite (fun _ => .ite (fun _ => ?_) (fun _ => .of_pins rfl)) (fun _ => .refl s)⟩
  have posted : KeepsPins s (State.post .hostResetSeen { s with ru := { s.ru with rstLatched := true } }) := .edited (.post _ _) rfl
  generalize State.post .hostResetSeen { s with ru := { s.ru with rstLatched := true } } = x at posted ⊢
  refine posted.trans ?_
  dsimp only
  cases x.own.state with
  | joining => exact .depart x
  | member => exact .depart x
  | suspect => exact .depart x
  | absent => exact .refl x
  | recovering => exact .refl x

theorem KeepsPins.count (s : State) : KeepsPins s s.count := by
  refine .of_pins ?_
  have hpt : s.pt.count.warn = s.pt.warn ∧ s.pt.count.state = s.pt.state := by
    unfold PromptTimer.count; split <;> exact ⟨rfl, rfl⟩
  have hru : s.ru.count.rstout = s.ru.rstout ∧ s.ru.count.state = s.ru.state := by
    unfold ResetUnit.count; split <;> exact ⟨rfl, rfl⟩
  simp only [State.pins, State.count, hpt, hru]
  rfl

theorem KeepsPins.runLocal (s : State) : KeepsPins s s.runLocal := by
  have timed : KeepsPins s (if s.pt.state = .running ∧ s.pt.remaining ≤ s.warningLead then s.warnTimer
      else if s.pt.state = .warned ∧ s.pt.remaining = 0 then s.lapseTimer else s) :=
    .ite (fun _ => .warnTimer s) (fun _ => .ite (fun _ => .lapseTimer s) (fun _ => .refl s))
  exact timed.trans (.ite (fun _ => .endPulse _) (fun _ => .refl _))

theorem KeepsPins.runLine (s : State) : KeepsPins s s.runLine :=
  .ite (fun _ => .expireRoundTimer s)
    (fun _ => .ite (fun _ => .expireListenWindow s) (fun _ => .ite (fun _ => .releaseLine s) (fun _ => .refl s)))

theorem KeepsPins.idle (s : State) : KeepsPins s s.idle :=
  (KeepsPins.count s).trans (.ite (fun _ => (KeepsPins.runLine _).trans (.runLocal _)) (fun _ => (KeepsPins.runLocal _).trans (.runLine _)))

/-- Every command answers a next state whose pins follow, where the line and the configuration agree. -/
theorem exec_keepsPins (c : Instr) {s : State} (hl : LineConsistent s) : ∃ t, exec c s = .next t ∧ KeepsPins s t := by
  cases c with
  | powerOn straps levels rstsense => exact ⟨_, rfl, fun _ => .of_fresh rfl rfl rfl rfl rfl⟩
  | ncsAssert => exact ⟨_, rfl, .ite (fun _ => .of_pins rfl) (fun _ => .refl s)⟩
  | ncsRelease => exact ⟨_, rfl, .of_pins rfl⟩
  | badCommandFrame sdi => exact ⟨_, rfl, .takeIn (.takeFrameBits hl sdi)⟩
  | responseDelivered => exact ⟨_, rfl, .deliver s⟩
  | configure record => exact ⟨_, rfl, .takeIn (.runHostCommand hl (.configure record))⟩
  | status => exact ⟨_, rfl, .takeIn (.runHostCommand hl .status)⟩
  | restart => exact ⟨_, rfl, .takeIn (.runHostCommand hl .restart)⟩
  | join => exact ⟨_, rfl, .takeIn (.runHostCommand hl .join)⟩
  | leave => exact ⟨_, rfl, .takeIn (.runHostCommand hl .leave)⟩
  | accuse address => exact ⟨_, rfl, .takeIn (.runHostCommand hl (.accuse address))⟩
  | pardon address => exact ⟨_, rfl, .takeIn (.runHostCommand hl (.pardon address))⟩
  | prompt sequence => exact ⟨_, rfl, .takeIn (.runHostCommand hl (.prompt sequence))⟩
  | publish word => exact ⟨_, rfl, .takeIn (.runHostCommand hl (.publish word))⟩
  | snapshot => exact ⟨_, rfl, .takeIn (.runHostCommand hl .snapshot)⟩
  | readEntry => exact ⟨_, rfl, .takeIn (.runHostCommand hl .readEntry)⟩
  | discardSnapshot => exact ⟨_, rfl, .takeIn (.runHostCommand hl .discardSnapshot)⟩
  | readEvent => exact ⟨_, rfl, .takeIn (.runHostCommand hl .readEvent)⟩
  | roundMark => exact ⟨_, rfl, .takeMark s⟩
  | roundTimerExpiry => exact ⟨_, rfl, .expireRoundTimer s⟩
  | listenWindowExpiry => exact ⟨_, rfl, .expireListenWindow s⟩
  | ownSlotStart => exact ⟨_, rfl, .startOwnSlot s⟩
  | ownSlotEnd clean => exact ⟨_, rfl, .endOwnSlot clean s⟩
  | slotClose slot reading => exact ⟨_, rfl, .closeSlot slot _ s⟩
  | announceFrame slot frame => exact ⟨_, rfl, .closeSlot slot _ s⟩
  | joinFrame slot frame => exact ⟨_, rfl, .closeSlot slot _ s⟩
  | leaveFrame slot frame => exact ⟨_, rfl, .closeSlot slot _ s⟩
  | verdictFieldStart => exact ⟨_, rfl, .startField s⟩
  | roundEnd condemn clear => exact ⟨_, rfl, .endRound condemn clear s⟩
  | collision => exact ⟨_, rfl, .takeCollision s⟩
  | lineStuck => exact ⟨_, rfl, .stickLine s⟩
  | lineReleased => exact ⟨_, rfl, .releaseLine s⟩
  | promptWarning => exact ⟨_, rfl, .warnTimer s⟩
  | promptLapsed => exact ⟨_, rfl, .lapseTimer s⟩
  | pulseEnd => exact ⟨_, rfl, .endPulse s⟩
  | pulseConfirmed => exact ⟨_, rfl, .ite (fun _ => .of_pins rfl) (fun _ => .refl s)⟩
  | externalHostReset begunInIdle => exact KeepsPins.externalReset begunInIdle s
  | mclrAssertion begunInHeld =>
    refine ⟨_, rfl, .ite (fun _ => .ite (fun _ => .ite (fun _ => .of_pins rfl) (fun _ => ?_)) (fun _ => .of_pins rfl)) (fun _ => .refl s)⟩
    exact .edited (.releaseHost _) rfl
  | recoveryWindowEnd => exact ⟨_, rfl, .ite (fun _ => .endWindow s) (fun _ => .refl s)⟩
  | inputChange input level =>
    exact ⟨_, rfl, .ite (fun _ => .refl s) (fun _ => .ite (fun _ => .edited (.post _ _) rfl) (fun _ => .of_pins rfl))⟩
  | turnaroundEnd => exact ⟨_, rfl, .ite (fun _ => .of_pins rfl) (fun _ => .refl s)⟩
  | releaseMeasurementRestart => exact ⟨_, rfl, .restartMeasurement s⟩
  | mclrRelease => exact ⟨_, rfl, .of_pins rfl⟩
  | rstsenseRelease => exact ⟨_, rfl, .of_pins rfl⟩

/-- Settles O6: each operation moves a pin with the item that it follows (KeepsPins), and every step is made of them. -/
theorem stepKeepsPins : Obligations.StepKeepsPins := by
  intro s t hs hl h
  unfold step at h
  cases hq : s.pending with
  | nil =>
    rw [hq] at h
    rw [← Host.Outcome.next.inj h]
    exact KeepsPins.idle s hs
  | cons c rest =>
    rw [hq] at h
    have dequeued : KeepsPins s { s with pending := rest } := .of_pins rfl
    obtain ⟨u, hu, hk⟩ := exec_keepsPins c (hl.of_lu (t := { s with pending := rest }) (.of_hp rfl) rfl)
    rw [← Host.Outcome.next.inj (hu.symm.trans h)]
    exact dequeued.trans hk hs

end Sys2Proof.Machine
end

section
/-! SUPPORT. The bits of a frame on the line: the stuffing and its way back, the frame read back from its bytes, and the statements about a peer's
slot without a frame. -/

namespace Sys2Proof

/-! ### Bit stuffing (R70) -/

/-- How many equal bits stand at the end once a bit has come after `run` bits equal to `last`. -/
def nextRun (last : Bool) (run : Nat) (b : Bool) : Nat := if b = last then run + 1 else 1

theorem stuffBits_cons (last : Bool) (run : Nat) (b : Bool) (rest : List Bool) : stuffBits last run (b :: rest) =
    if nextRun last run b = 4 then b :: (!b) :: stuffBits (!b) 1 rest else b :: stuffBits b (nextRun last run b) rest := rfl

theorem nextRun_range {run : Nat} (h1 : 1 ≤ run) (h3 : run ≤ 3) (last b : Bool) :
    1 ≤ nextRun last run b ∧ nextRun last run b ≤ 4 := by
  unfold nextRun
  split <;> omega

/-- The receiver takes a data bit that ends no run of four. -/
theorem unstuffBits_plain {last b : Bool} {run : Nat} (h : nextRun last run b ≠ 4) (w : Nat) (rest : List Bool) :
    unstuffBits last run (w + 1) (b :: rest) = (unstuffBits b (nextRun last run b) w rest).map (fun out => b :: out) := by
  rw [unstuffBits.eq_def]
  exact if_neg h

/-- After a run of four the receiver drops the bit of the opposite level. -/
theorem unstuffBits_stuffed {last b : Bool} {run : Nat} (h : nextRun last run b = 4) (w : Nat) (rest : List Bool) :
    unstuffBits last run (w + 1) (b :: (!b) :: rest) = (unstuffBits (!b) 1 w rest).map (fun out => b :: out) := by
  rw [unstuffBits]
  exact (if_pos h).trans (if_neg (Bool.not_ne_self b))

/-- The receiver takes out every bit that the sender inserted. -/
theorem unstuffBits_stuffBits (bits : List Bool) (last : Bool) (run : Nat) :
    unstuffBits last run bits.length (stuffBits last run bits ++ [true]) = some bits := by
  induction bits generalizing last run with
  | nil => rfl
  | cons b rest ih =>
    rw [stuffBits_cons, List.length_cons]
    by_cases hn : nextRun last run b = 4
    · rw [if_pos hn, List.cons_append, List.cons_append, unstuffBits_stuffed hn, ih]
      rfl
    · rw [if_neg hn, List.cons_append, unstuffBits_plain hn, ih]
      rfl

/-- One bit is inserted for three data bits at most, the run before the data counted. -/
theorem length_stuffBits (bits : List Bool) {run : Nat} (h1 : 1 ≤ run) (h3 : run ≤ 3) (last : Bool) :
    3 * (stuffBits last run bits).length + 1 ≤ 4 * bits.length + run := by
  induction bits generalizing last run with
  | nil => simpa [stuffBits] using h1
  | cons b rest ih =>
    have hle : nextRun last run b ≤ run + 1 := by unfold nextRun; split <;> omega
    obtain ⟨hn1, hn4⟩ := nextRun_range h1 h3 last b
    rw [stuffBits_cons]
    by_cases hn : nextRun last run b = 4
    · have := ih (run := 1) le_rfl (by omega) (!b)
      simp only [if_pos hn, List.length_cons]
      omega
    · have := ih hn1 (by omega) b
      simp only [if_neg hn, List.length_cons]
      omega

/-- No run of one level grows longer than four bits, `run` bits equal to `last` standing before. -/
def runsWithinFour (last : Bool) (run : Nat) : List Bool → Prop
  | [] => True
  | b :: rest => nextRun last run b ≤ 4 ∧ runsWithinFour b (nextRun last run b) rest

theorem runsWithinFour_stuffBits (bits : List Bool) {run : Nat} (h1 : 1 ≤ run) (h3 : run ≤ 3) (last : Bool) :
    runsWithinFour last run (stuffBits last run bits ++ [true]) := by
  induction bits generalizing last run with
  | nil => exact ⟨(nextRun_range h1 h3 last true).2, trivial⟩
  | cons b rest ih =>
    obtain ⟨hn1, hn4⟩ := nextRun_range h1 h3 last b
    rw [stuffBits_cons]
    by_cases hn : nextRun last run b = 4
    · have hturn (n : Nat) : nextRun b n (!b) = 1 := if_neg (Bool.not_ne_self b)
      rw [if_pos hn]
      refine ⟨hn4, ?_⟩
      change nextRun b _ (!b) ≤ 4 ∧ _
      rw [hturn]
      exact ⟨by omega, ih le_rfl (by omega) (!b)⟩
    · rw [if_neg hn]
      exact ⟨hn4, ih hn1 (by omega) b⟩

/-- Five equal bits are a run of five. -/
theorem not_runsWithinFour_five (before after : List Bool) (last : Bool) (run : Nat) (b : Bool) :
    ¬ runsWithinFour last run (before ++ [b, b, b, b, b] ++ after) := by
  induction before generalizing last run with
  | cons c before ih => exact fun h => ih c _ h.2
  | nil =>
    have hgrow (n : Nat) : nextRun b n b = n + 1 := if_pos rfl
    have hpos : 1 ≤ nextRun last run b := by unfold nextRun; split <;> omega
    intro h
    obtain ⟨-, -, -, -, hfive, -⟩ := h
    simp only [hgrow] at hfive
    omega

/-! ### Bytes and their bits (R168) -/

theorem byteOfBits_bitsOf (b : Byte) : byteOfBits (b.getLsbD 7) (b.getLsbD 6) (b.getLsbD 5) (b.getLsbD 4) (b.getLsbD 3) (b.getLsbD 2)
    (b.getLsbD 1) (b.getLsbD 0) = b := by
  apply BitVec.eq_of_getLsbD_eq
  intro i hi
  simp only [byteOfBits, BitVec.getLsbD_append, BitVec.getLsbD_ofBool]
  interval_cases i <;> rfl

theorem bytesOfBits_dataBits (bs : List Byte) : bytesOfBits (dataBits bs) = bs := by
  induction bs with
  | nil => rfl
  | cons b bs ih =>
    change byteOfBits _ _ _ _ _ _ _ _ :: bytesOfBits (dataBits bs) = b :: bs
    rw [ih, byteOfBits_bitsOf]

theorem length_dataBits (bs : List Byte) : (dataBits bs).length = 8 * bs.length := by
  induction bs with
  | nil => rfl
  | cons b bs ih =>
    change (dataBits bs).length + 8 = _
    rw [ih, List.length_cons]
    omega

/-- Sixteen bytes are read back from their bits on the line. -/
theorem bytesOfLine_lineBits {bs : List Byte} (h : bs.length = 16) : bytesOfLine (lineBits bs) = some bs := by
  have hlen : 128 = (dataBits bs).length := by rw [length_dataBits, h]
  change (unstuffBits false 1 128 _).map bytesOfBits = _
  rw [hlen, unstuffBits_stuffBits, Option.map_some, bytesOfBits_dataBits]

/-- Settles O14, by the induction over the data bits that the stuffing makes: the bits read back, the length and the runs. -/
theorem lineBitsRoundTrip : Obligations.LineBitsRoundTrip := by
  refine fun bs h => ⟨bytesOfLine_lineBits h, ?_, fun before after b heq => ?_⟩
  · have hstuffed := length_stuffBits (dataBits bs) le_rfl (by omega : 1 ≤ 3) false
    rw [length_dataBits, h] at hstuffed
    simp only [lineBits, List.length_cons, List.length_append, List.length_nil]
    omega
  · have hruns : runsWithinFour true 0 (lineBits bs) :=
      ⟨by decide, runsWithinFour_stuffBits (dataBits bs) (by decide : 1 ≤ 1) (by decide) false⟩
    rw [heq] at hruns
    exact not_runsWithinFour_five before after true 0 b hruns

/-! ### A frame from its bytes (R169) -/

theorem nibbleOf_inj {a b : Addr} : nibbleOf a = nibbleOf b ↔ a = b := by
  refine ⟨fun h => Fin.ext ?_, fun h => by rw [h]⟩
  have hval := congrArg BitVec.toNat h
  simp only [nibbleOf, BitVec.toNat_ofNat] at hval
  rwa [Nat.mod_eq_of_lt a.isLt, Nat.mod_eq_of_lt b.isLt] at hval

theorem FrameKind.ofCode_code (kind : FrameKind) : FrameKind.ofCode kind.code = some kind := by cases kind <;> rfl

/-- The two fields of byte 7, each under a zero bit. -/
theorem extract_stateByte (h a : BitVec 3) : ((0#1 ++ h) ++ (0#1 ++ a) : BitVec 8).extractLsb' 4 3 = h ∧
    ((0#1 ++ h) ++ (0#1 ++ a) : BitVec 8).extractLsb' 0 3 = a := by
  constructor
  all_goals
    apply BitVec.eq_of_getLsbD_eq
    intro i hi
    simp only [BitVec.getLsbD_extractLsb', BitVec.getLsbD_append]
    interval_cases i <;> simp

/-- The bytes of a frame are that frame in its sender's slot, and no frame in any other. -/
theorem frameOfBytes_frameBytes (slot sender : Addr) (kind : FrameKind) (f : FrameBody) :
    frameOfBytes slot (frameBytes kind sender f) = if sender = slot then some (kind, f) else none := by
  have hcheck := wordOf_highByte_lowByte (crc16 (frameHead kind sender f))
  have hsender : (kind.code ++ nibbleOf sender).extractLsb' 0 4 = nibbleOf sender := BitVec.extractLsb'_append_eq_right
  have hkind : (kind.code ++ nibbleOf sender).extractLsb' 4 4 = kind.code := BitVec.extractLsb'_append_eq_left
  have hflags : (0#4 ++ f.flags).extractLsb' 0 4 = f.flags := BitVec.extractLsb'_append_eq_right
  obtain ⟨hhost, hattempt⟩ := extract_stateByte f.hostCode f.attempt
  simp only [frameBytes, frameHead, List.cons_append, List.nil_append, frameOfBytes] at hcheck ⊢
  simp only [hcheck, hsender, hkind, hflags, hhost, hattempt, nibbleOf_inj, true_and, FrameKind.ofCode_code, wordOf_highByte_lowByte]

theorem length_frameBytes (kind : FrameKind) (sender : Addr) (f : FrameBody) : (frameBytes kind sender f).length = 16 := rfl

end Sys2Proof

namespace Sys2Proof.Machine

/-! ### What a slot's bits are taken for (R81) -/

/-- Bits that are no stuffed frame, or whose bytes are no frame of the slot's sender, are GARBLED. -/
theorem receptionOf_garbled {k : Addr} {bits : List Bool} (h : ∀ bytes, bytesOfLine bits = some bytes → frameOfBytes k bytes = none) :
    receptionOf k (.levels bits) = .garbled := by
  have hnone : (bytesOfLine bits).bind (frameOfBytes k) = none := by
    cases hb : bytesOfLine bits with
    | none => rfl
    | some bytes => exact h bytes hb
  rw [receptionOf, hnone]

/-- The bits of a frame of the slot's address are that frame (log entry 16). -/
theorem receptionOf_frame (k : Addr) (kind : FrameKind) (f : FrameBody) :
    receptionOf k (.levels (lineBits (frameBytes kind k f))) = .frame kind f := by
  rw [receptionOf, bytesOfLine_lineBits (length_frameBytes kind k f), Option.bind_some, frameOfBytes_frameBytes, if_pos rfl]

/-- Settles O40, by what each reading is taken for and what an open slot makes of that. -/
theorem peerSlotWithoutFrame : Obligations.PeerSlotWithoutFrame := by
  refine fun s k => ⟨fun hn r => congrArg Host.Outcome.next (State.closeSlot_of_not_open hn _), fun hopen => ?_⟩
  have closed (r : SlotReading) : exec (.slotClose k r) s = .next (s.closeSlot k (receptionOf k r)) := rfl
  have garbled {r : SlotReading} (hr : receptionOf k r = .garbled) : exec (.slotClose k r) s = .next { s with lu :=
      { s.lu.closed k .garbled with garbledTotal := if s.lu.garbledTotal < 65535 then s.lu.garbledTotal + 1 else 65535 } } := by
    rw [closed, hr, State.closeSlot_eq hopen]
    rfl
  have framed (kind : FrameKind) (f : FrameBody) :
      exec (.slotClose k (.levels (lineBits (frameBytes kind k f)))) s = .next (s.closeSlot k (.frame kind f)) := by
    rw [closed, receptionOf_frame]
  refine ⟨?_, garbled rfl, fun bits hb => garbled (receptionOf_garbled ?_), fun bits bytes hb hf => garbled (receptionOf_garbled ?_),
    fun kind j f hj => garbled (receptionOf_garbled ?_), fun f => ⟨framed .announce f, framed .join f, framed .leave f⟩⟩
  · rw [closed, State.closeSlot_eq hopen]
    rfl
  · rw [hb]; exact fun _ hc => absurd hc.symm (Option.some_ne_none _)
  · rw [hb]; exact fun _ hc => Option.some.inj hc ▸ hf
  · rw [bytesOfLine_lineBits (length_frameBytes kind j f)]
    exact fun _ hc => Option.some.inj hc ▸ by rw [frameOfBytes_frameBytes, if_neg hj]

end Sys2Proof.Machine
end

section
/-! SUPPORT. The resynchronisation check and the entry of a searching station into the rounds, and the statements about them. -/

namespace Sys2Proof.Machine

/-! ### The resynchronisation check (R90) -/

/-- Three different numbers are counted at different places of a list. -/
theorem count_three_le {a b c : Word16} (hab : a ≠ b) (hac : a ≠ c) (hbc : b ≠ c) (l : List Word16) :
    l.count a + l.count b + l.count c ≤ l.length := by
  induction l with
  | nil => simp
  | cons d l ih =>
    have hone : (if d = a then 1 else 0) + (if d = b then 1 else 0) + (if d = c then 1 else 0) ≤ 1 := by
      by_cases hda : d = a
      · subst hda; simp [hab, hac]
      · by_cases hdb : d = b
        · subst hdb; simp [hda, hbc]
        · simp only [if_neg hda, if_neg hdb]; split <;> omega
    simp only [List.count_cons, List.length_cons, beq_iff_eq]
    omega

theorem LineUnit.outweighs_iff (l : LineUnit) (x : Word16) : l.outweighs x = true ↔ x ≠ l.roundNumber ∧
    (l.carriedNumbers.length < 2 * l.carriedNumbers.count x ∨
      (2 * l.carriedNumbers.count x = l.carriedNumbers.length ∧
        2 * l.carriedNumbers.count l.roundNumber = l.carriedNumbers.length ∧ l.roundNumber.toNat < x.toNat)) := by
  simp only [LineUnit.outweighs, Bool.and_eq_true, Bool.or_eq_true, bne_iff_ne, beq_iff_eq, decide_eq_true_eq]
  refine and_congr_right fun _ => or_congr_right ⟨?_, ?_⟩
  · rintro ⟨⟨h1, h2⟩, h3⟩
    exact ⟨h1, by rw [h2]; exact h1, h3⟩
  · rintro ⟨h1, h2, h3⟩
    exact ⟨⟨h1, by omega⟩, h3⟩

/-- A number that takes the round over is carried by half of the frames at least. -/
theorem LineUnit.half_of_outweighs {l : LineUnit} {x : Word16} (h : l.outweighs x = true) :
    l.carriedNumbers.length ≤ 2 * l.carriedNumbers.count x := by
  rcases ((l.outweighs_iff x).1 h).2 with h | ⟨h, -⟩ <;> omega

/-- At most one number takes the round over, where any frame is counted: two with half of the frames each leave none for the own number. -/
theorem LineUnit.outweighs_unique {l : LineUnit} (hl : l.carriedNumbers ≠ []) {x y : Word16} (hx : l.outweighs x = true)
    (hy : l.outweighs y = true) : x = y := by
  by_contra hne
  have hpos : 0 < l.carriedNumbers.length := List.length_pos_iff.2 hl
  obtain ⟨hxo, hx'⟩ := (l.outweighs_iff x).1 hx
  obtain ⟨hyo, -⟩ := (l.outweighs_iff y).1 hy
  have hroom := count_three_le hne hxo hyo l.carriedNumbers
  have hhalf := LineUnit.half_of_outweighs hy
  rcases hx' with hx' | ⟨hx', hown, -⟩ <;> omega

/-- The slot yielded a frame of another round number. -/
def SlotOutcome.isOutOfStep (o : SlotOutcome) : Bool :=
  match o with
  | .outOfStep _ => true
  | .silent | .garbled | .foreign | .frame _ => false

theorem LineUnit.resyncNumber_eq (l : LineUnit) : l.resyncNumber =
    if l.outcomes.any (fun p => p.2.isOutOfStep) then l.carriedNumbers.find? l.outweighs else none := rfl

theorem LineUnit.any_isOutOfStep (l : LineUnit) :
    l.outcomes.any (fun p => p.2.isOutOfStep) = true ↔ ∃ p ∈ l.outcomes, ∃ n, p.2 = .outOfStep n := by
  rw [List.any_eq_true]
  refine exists_congr fun p => and_congr_right fun _ => ?_
  cases p.2 <;> simp [SlotOutcome.isOutOfStep]

theorem LineUnit.carriedNumbers_ne_nil {l : LineUnit} (h : ∃ p ∈ l.outcomes, ∃ n, p.2 = .outOfStep n) : l.carriedNumbers ≠ [] := by
  obtain ⟨p, hp, n, hn⟩ := h
  have hmem : n ∈ l.outcomes.filterMap (fun p => p.2.carried) := List.mem_filterMap.2 ⟨p, hp, by rw [hn]; rfl⟩
  exact List.ne_nil_of_mem (List.mem_append_left _ hmem)

theorem LineUnit.resyncNumber_iff (l : LineUnit) (x : Word16) : l.resyncNumber = some x ↔
    (∃ p ∈ l.outcomes, ∃ n, p.2 = .outOfStep n) ∧ l.outweighs x = true := by
  rw [LineUnit.resyncNumber_eq]
  by_cases h : ∃ p ∈ l.outcomes, ∃ n, p.2 = .outOfStep n
  · rw [if_pos (l.any_isOutOfStep.2 h)]
    have hne := LineUnit.carriedNumbers_ne_nil h
    refine ⟨fun hf => ⟨h, List.find?_some hf⟩, fun ⟨_, hx⟩ => ?_⟩
    have hmem : x ∈ l.carriedNumbers := by
      have := LineUnit.half_of_outweighs hx
      have := List.length_pos_iff.2 hne
      exact List.count_pos_iff.1 (by omega)
    obtain ⟨y, hy⟩ := Option.isSome_iff_exists.1 (List.find?_isSome.2 ⟨x, hmem, hx⟩)
    rw [hy, LineUnit.outweighs_unique hne (List.find?_some hy) hx]
  · rw [if_neg (fun hc => h (l.any_isOutOfStep.1 hc))]
    exact iff_of_false (Option.some_ne_none x).symm (fun hc => h hc.1)

/-- Settles O50, by the uniqueness of the number that takes the round over. -/
theorem resynchronised : Obligations.Resynchronised := by
  intro s x
  have hnumbers : s.lu.carriedNumbers =
      s.lu.outcomes.filterMap (fun p => match p.2 with | .frame n => some n | .outOfStep n => some n | _ => none) ++
        (match s.lu.ownFrame with | some fr => if s.lu.ownWhole then [fr.body.round] else [] | none => []) := by
    refine congrArg₂ (· ++ ·) (congrArg (List.filterMap · _) (funext fun p => ?_)) ?_
    · cases p.2 <;> rfl
    · cases s.lu.ownFrame <;> rfl
  have htaken := (s.lu.resyncNumber_iff x).trans (and_congr_right fun _ => s.lu.outweighs_iff x)
  rw [hnumbers] at htaken
  refine ⟨htaken, fun h => ?_, fun h => ?_⟩
  · rw [State.resync, h]
  · rw [State.resync, h]

/-! ### The line states in which a mark is taken (R73, R76, R77, R87) -/

theorem State.searching_iff (s : State) : s.searching = true ↔ s.lu.state = .listening ∧ s.lu.waitRelease = false := by
  simp [State.searching]

theorem State.waitingRelease_iff (s : State) : s.waitingRelease = true ↔ s.lu.state = .listening ∧ s.lu.waitRelease = true := by
  simp [State.waitingRelease]

theorem State.not_online {s : State} (h : ¬ (s.lu.state = .synced ∨ s.lu.state = .active)) : ¬ s.online = true :=
  fun ho => h (s.online_iff.1 ho)

theorem State.not_searching {s : State} (h : s.lu.state ≠ .listening) : ¬ s.searching = true :=
  fun hs => h (s.searching_iff.1 hs).1

theorem State.expireListenWindow_of_not_searching {s : State} (h : ¬ s.searching = true) : s.expireListenWindow = s := if_neg h

theorem State.expireRoundTimer_of_not_online {s : State} (h : ¬ s.online = true) : s.expireRoundTimer = s := if_neg (fun hc => h hc.1)

/-- The entry into SYNCED or ACTIVE where the recovery window does not end with it (R78, R113). -/
theorem State.enterSynced_eq {s : State} {voters : AddrSet} (hv : ∀ a : Addr, inSet a voters = (s.entry a).state.isMember)
    (hr : s.ru.state = .waiting → 1 < s.ru.recovery) (d : Driving) (way : WayOfEntry) : s.enterSynced d way =
    { (s.roundBegun d true voters).post (.lineSynced way) with
      ru := if s.ru.state = .waiting then { s.ru with recovery := s.ru.recovery - 1 } else s.ru } := by
  have hdue : (s.roundBegun d true voters).windowDue = false := by
    refine Bool.eq_false_iff.2 fun hc => ?_
    simp only [State.windowDue, Bool.and_eq_true, beq_iff_eq, decide_eq_true_eq] at hc
    exact absurd (hr hc.1) (Nat.not_lt.2 hc.2)
  rw [State.enterSynced, State.startRound_eq hv]
  dsimp only
  rw [hdue, Bool.false_and, if_neg Bool.false_ne_true, State.countRecoveryRound_eq (by exact hr)]
  rfl

/-- Settles O36, by the line state: the search, no round and no search, the wait for release, the rounds. -/
theorem searchingStationSynced : Obligations.SearchingStationSynced := by
  refine fun s voters hv => ⟨fun hl hw hr => ?_, fun hl => ?_, fun hl hw => ⟨congrArg Host.Outcome.next ?_, congrArg Host.Outcome.next ?_⟩,
    fun hl => congrArg Host.Outcome.next ?_, fun hl => congrArg Host.Outcome.next ?_⟩
  · have hoff : ¬ s.online = true := State.not_online (by simp [hl])
    have hsearch : s.searching = true := s.searching_iff.2 ⟨hl, hw⟩
    refine ⟨congrArg Host.Outcome.next ?_, congrArg Host.Outcome.next ?_⟩
    · rw [State.takeMark, if_neg hoff, if_pos hsearch, State.enterSynced_eq hv hr]
    · rw [State.expireListenWindow, if_pos hsearch, State.enterSynced_eq hv hr]
  · have hne : s.lu.state ≠ .listening := by rcases hl with hl | hl <;> rw [hl] <;> decide
    have hoff : ¬ s.online = true := State.not_online (by rcases hl with hl | hl <;> rw [hl] <;> decide)
    have hsearch := State.not_searching hne
    have hwait : ¬ s.waitingRelease = true := fun h => hne (s.waitingRelease_iff.1 h).1
    refine ⟨congrArg Host.Outcome.next ?_, congrArg Host.Outcome.next ?_, congrArg Host.Outcome.next ?_⟩
    · rw [State.takeMark, if_neg hoff, if_neg hsearch, State.restartMeasurement, if_neg hwait]
    · exact State.expireRoundTimer_of_not_online hoff
    · exact State.expireListenWindow_of_not_searching hsearch
  · have hoff : ¬ s.online = true := State.not_online (by simp [hl])
    have hsearch : ¬ s.searching = true := by simp [State.searching_iff, hw]
    rw [State.takeMark, if_neg hoff, if_neg hsearch, State.restartMeasurement, if_pos (s.waitingRelease_iff.2 ⟨hl, hw⟩)]
  · exact State.expireListenWindow_of_not_searching (by simp [State.searching_iff, hw])
  · exact State.expireRoundTimer_of_not_online (State.not_online (by simp [hl]))
  · exact State.expireListenWindow_of_not_searching (State.not_searching (by rcases hl with hl | hl <;> rw [hl] <;> decide))

end Sys2Proof.Machine
end

section
/-! SUPPORT. One idle millisecond: the counts, those of them that run out, the line timers that run out, and the statement about them. -/

namespace Sys2Proof.Machine

/-! ### The counts (R72, R77, R87, R98, R111) -/

/-- Every count one millisecond on, as one record. -/
theorem State.count_eq (s : State) : s.count = { s with
    pt := { s.pt with remaining :=
      if s.pt.state = .running ∨ s.pt.state = .warned then s.pt.remaining - 1 else s.pt.remaining }
    ru := { s.ru with pulse := if s.ru.state = .pulsing then s.ru.pulse - 1 else s.ru.pulse }
    lu := { s.lu with
      driving := if s.lu.driving = .mark then .nothing else s.lu.driving
      roundTimer := s.lu.roundTimer.map (· - 1)
      listenWindow := s.lu.listenWindow.map (· - 1)
      recessiveTime :=
        if s.lu.state = .listening ∧ s.lu.waitRelease = true then s.lu.recessiveTime + 1 else s.lu.recessiveTime }
    ticks := s.ticks + 1 } := by
  have hpt : s.pt.count = { s.pt with remaining :=
      if s.pt.state = .running ∨ s.pt.state = .warned then s.pt.remaining - 1 else s.pt.remaining } := by
    unfold PromptTimer.count
    split
    · next h => rw [if_pos (.inl h)]
    · next h => rw [if_pos (.inr h)]
    all_goals next h => rw [if_neg (by rw [h]; decide)]
  have hru : s.ru.count = { s.ru with pulse := if s.ru.state = .pulsing then s.ru.pulse - 1 else s.ru.pulse } := by
    unfold ResetUnit.count
    split
    · next h => rw [if_pos h]
    all_goals next h => rw [if_neg (by rw [h]; decide)]
  have hdriving : s.lu.driving.afterMillisecond = if s.lu.driving = .mark then .nothing else s.lu.driving := by
    cases s.lu.driving <;> rfl
  rw [State.count, hpt, hru, LineUnit.count, hdriving]

/-- A timer that counts down stands at 0 where 0 or 1 was left. -/
theorem countdown_zero (o : Option Nat) : o.map (· - 1) = some 0 ↔ o = some 0 ∨ o = some 1 := by
  cases o with
  | none => simp
  | some n => simp only [Option.map_some, Option.some.injEq]; omega

theorem State.cfg_congr {s t : State} (h : t.hp.config = s.hp.config) : t.cfg = s.cfg := by rw [State.cfg, State.cfg, h]

/-! ### The counts of the Prompt Timer and of the pulse that run out (R98, R99, R112) -/

/-- The count of the Prompt Timer that has run out is taken. -/
def State.runPrompt (s : State) : State :=
  if s.pt.state = .running ∧ s.pt.remaining ≤ s.warningLead then s.warnTimer
  else if s.pt.state = .warned ∧ s.pt.remaining = 0 then s.lapseTimer
  else s

@[simp] theorem State.runPrompt_ru (s : State) : s.runPrompt.ru = s.ru := by
  unfold State.runPrompt
  repeat' split
  all_goals simp

/-- The Prompt Timer's count is taken before the pulse. -/
theorem State.runLocal_eq (s : State) : s.runLocal =
    if s.ru.state = .pulsing ∧ s.ru.pulse = 0 then s.runPrompt.endPulse else s.runPrompt := by
  rw [← s.runPrompt_ru]
  rfl

theorem State.runLocal_warning {u : State} (h : u.pt.state = .running ∧ u.pt.remaining ≤ u.warningLead) (hr : u.ru.state ≠ .pulsing) :
    u.runLocal = u.warnTimer := by
  rw [State.runLocal_eq, if_neg (fun hc => hr hc.1), State.runPrompt, if_pos h]

theorem State.runLocal_lapse {u : State} (h : u.pt.state = .warned ∧ u.pt.remaining = 0) (hr : u.ru.state ≠ .pulsing) :
    u.runLocal = u.lapseTimer := by
  rw [State.runLocal_eq, if_neg (fun hc => hr hc.1), State.runPrompt, if_neg (by simp [h.1]), if_pos h]

theorem State.runLocal_pulse {u : State} (h : u.ru.state = .pulsing ∧ u.ru.pulse = 0) (hp : u.pt.state = .disarmed) :
    u.runLocal = u.endPulse := by
  rw [State.runLocal_eq, if_pos h, State.runPrompt, if_neg (by simp [hp]), if_neg (by simp [hp])]

/-- The warning at its own time (R98). -/
theorem State.warnTimer_eq {u : State} (h : u.pt.state = .running) (hr : u.pt.remaining = u.warningLead) : u.warnTimer =
    { u with pt := { u.pt with state := .warned, warn := true } }.post (.promptWarning u.pt.expected) := by
  rw [State.warnTimer, if_pos h, ← hr]

/-- The lapse at its own time (R99). -/
theorem State.lapseTimer_eq {u : State} (h : u.pt.state = .warned) (hr : u.pt.remaining = 0) : u.lapseTimer =
    { u with pt := { u.pt with state := .lapsed, warn := true } }.post (.promptLapsed u.pt.expected) := by
  rw [State.lapseTimer, if_pos h, ← hr]

/-- The end of the pulse at its own time (R112). -/
theorem State.endPulse_eq {u : State} (h : u.ru.state = .pulsing) (hp : u.ru.pulse = 0) : u.endPulse =
    { u with ru := { u.ru with state := .waiting, recovery := u.recoveryRounds, rstout := false } }.post
      (.attemptEnd (if u.ru.confirmed then .confirmed else .unconfirmed) u.ru.attempt) := by
  rw [State.endPulse, if_pos h, ← hp]

theorem State.localDue_eq_false_iff (u : State) : u.localDue = false ↔ ¬ (u.pt.state = .running ∧ u.pt.remaining ≤ u.warningLead) ∧
    ¬ (u.pt.state = .warned ∧ u.pt.remaining = 0) ∧ ¬ (u.ru.state = .pulsing ∧ u.ru.pulse = 0) := by
  rw [← Bool.not_eq_true]
  simp only [State.localDue, Bool.or_eq_true, Bool.and_eq_true, beq_iff_eq, decide_eq_true_eq, not_or, and_assoc]

theorem State.runLocal_quiet {u : State} (h : u.localDue = false) : u.runLocal = u := by
  obtain ⟨hwarn, hlapse, hpulse⟩ := u.localDue_eq_false_iff.1 h
  rw [State.runLocal_eq, if_neg hpulse, State.runPrompt, if_neg hwarn, if_neg hlapse]

theorem State.runLocal_keeps (u : State) : u.runLocal.lu = u.lu ∧ u.runLocal.hp.config = u.hp.config := by
  rw [State.runLocal_eq, State.runPrompt]
  constructor
  all_goals
    repeat' split
    all_goals simp

/-! ### The timers of the line that run out (R72, R78, R87) -/

theorem State.runLine_round {u : State} (h : u.online = true ∧ u.lu.pos = .rest ∧ u.lu.roundTimer = some 0) :
    u.runLine = u.expireRoundTimer := if_pos (by simp [h])

theorem State.runLine_window {u : State} (h : u.searching = true ∧ u.lu.listenWindow = some 0) : u.runLine = u.expireListenWindow := by
  have hl := (u.searching_iff.1 h.1).1
  have hoff : u.online = false := by simp [State.online, hl]
  rw [State.runLine, if_neg (by simp [hoff]), if_pos (by simp [h])]

theorem State.runLine_release {u : State} (h : u.waitingRelease = true ∧ u.roundPeriodMs ≤ u.lu.recessiveTime) :
    u.runLine = u.releaseLine := by
  obtain ⟨hl, hw⟩ := u.waitingRelease_iff.1 h.1
  have hoff : u.online = false := by simp [State.online, hl]
  have hsearch : u.searching = false := by simp [State.searching, hw]
  rw [State.runLine, if_neg (by simp [hoff]), if_neg (by simp [hsearch]), if_pos (by simp [h])]

theorem State.lineDue_eq_false_iff (u : State) : u.lineDue = false ↔
    ¬ (u.online = true ∧ u.lu.pos = .rest ∧ u.lu.roundTimer = some 0) ∧ ¬ (u.searching = true ∧ u.lu.listenWindow = some 0) ∧
    ¬ (u.waitingRelease = true ∧ u.roundPeriodMs ≤ u.lu.recessiveTime) := by
  rw [← Bool.not_eq_true]
  simp only [State.lineDue, Bool.or_eq_true, Bool.and_eq_true, beq_iff_eq, decide_eq_true_eq, not_or, and_assoc]

theorem State.runLine_quiet {u : State} (h : u.lineDue = false) : u.runLine = u := by
  simp only [State.lineDue, Bool.or_eq_false_iff] at h
  obtain ⟨⟨hround, hwindow⟩, hrelease⟩ := h
  rw [State.runLine, hround, hwindow, hrelease]
  rfl

theorem State.roundPeriodMs_congr {t u : State} (hc : u.hp.config = t.hp.config) : u.roundPeriodMs = t.roundPeriodMs := by
  rw [State.roundPeriodMs, State.roundPeriodMs, State.cfg_congr hc]

theorem State.lineDue_congr {t u : State} (hl : u.lu = t.lu) (hc : u.hp.config = t.hp.config) : u.lineDue = t.lineDue := by
  simp only [State.lineDue, State.online, State.searching, State.waitingRelease, hl, State.roundPeriodMs_congr hc]

/-- A round beginning and an entry leave a Reset Unit that is not WAITING alone (R113). -/
theorem State.runLine_keeps {u : State} (h : u.ru.state ≠ .waiting) :
    u.runLine.pt = u.pt ∧ u.runLine.ru = u.ru ∧ u.runLine.hp.config = u.hp.config := by
  have counted (x : State) (hx : x.ru = u.ru) : x.countRecoveryRound.ru = u.ru := by
    rw [State.countRecoveryRound, if_neg (by rw [hx]; exact h), hx]
  have begun (d : Driving) : (u.beginRound d).ru = u.ru := counted _ rfl
  have entered (d : Driving) (w : WayOfEntry) : (u.enterSynced d w).ru = u.ru := by
    unfold State.enterSynced
    dsimp only
    split
    · exact counted _ rfl
    · exact counted _ rfl
  unfold State.runLine State.expireRoundTimer State.expireListenWindow State.releaseLine
  dsimp only
  repeat' split
  all_goals simp [begun, entered]

/-! ### One idle millisecond -/

theorem State.count_roundDue (s : State) :
    (s.count.online = true ∧ s.count.lu.pos = .rest ∧ s.count.lu.roundTimer = some 0) ↔
    ((s.lu.state = .synced ∨ s.lu.state = .active) ∧ s.lu.pos = .rest ∧ (s.lu.roundTimer = some 0 ∨ s.lu.roundTimer = some 1)) :=
  and_congr s.count.online_iff (and_congr_right fun _ => countdown_zero s.lu.roundTimer)

theorem State.count_windowDue (s : State) : (s.count.searching = true ∧ s.count.lu.listenWindow = some 0) ↔
    (s.lu.state = .listening ∧ s.lu.waitRelease = false ∧ (s.lu.listenWindow = some 0 ∨ s.lu.listenWindow = some 1)) :=
  (and_congr s.count.searching_iff (countdown_zero s.lu.listenWindow)).trans and_assoc

theorem State.count_releaseDue (s : State) :
    (s.count.waitingRelease = true ∧ s.count.roundPeriodMs ≤ s.count.lu.recessiveTime) ↔
    (s.lu.state = .listening ∧ s.lu.waitRelease = true ∧ s.roundPeriodMs ≤ s.lu.recessiveTime + 1) := by
  rw [State.waitingRelease_iff, and_assoc]
  refine and_congr_right fun hl => and_congr_right fun hw => ?_
  have htime : s.count.lu.recessiveTime = s.lu.recessiveTime + 1 := if_pos ⟨hl, hw⟩
  rw [htime]
  rfl

/-- The line timers that this millisecond brings to their ends, as the statement names them. -/
theorem State.count_lineDue (s : State) : s.count.lineDue = false ↔
    ¬ ((s.lu.state = .synced ∨ s.lu.state = .active) ∧ s.lu.pos = .rest ∧ (s.lu.roundTimer = some 0 ∨ s.lu.roundTimer = some 1)) ∧
    ¬ (s.lu.state = .listening ∧ s.lu.waitRelease = false ∧ (s.lu.listenWindow = some 0 ∨ s.lu.listenWindow = some 1)) ∧
    ¬ (s.lu.state = .listening ∧ s.lu.waitRelease = true ∧ s.roundPeriodMs ≤ s.lu.recessiveTime + 1) := by
  rw [State.lineDue_eq_false_iff, s.count_roundDue, s.count_windowDue, s.count_releaseDue]

/-- The Prompt Timer's state stands, and its remaining time falls in RUNNING and WARNED (R98). -/
theorem State.count_pt (s : State) : s.count.pt.state = s.pt.state ∧ s.count.pt.expected = s.pt.expected ∧
    s.count.pt.remaining = if s.pt.state = .running ∨ s.pt.state = .warned then s.pt.remaining - 1 else s.pt.remaining := by
  rw [s.count_eq]
  exact ⟨rfl, rfl, rfl⟩

/-- The reset state stands, and the pulse falls in PULSING (R111). -/
theorem State.count_ru (s : State) : s.count.ru.state = s.ru.state ∧ s.count.ru.attempt = s.ru.attempt ∧
    s.count.ru.confirmed = s.ru.confirmed ∧ s.count.ru.pulse = if s.ru.state = .pulsing then s.ru.pulse - 1 else s.ru.pulse := by
  rw [s.count_eq]
  exact ⟨rfl, rfl, rfl, rfl⟩

theorem State.idle_of_lineQuiet {s : State} (h : s.count.lineDue = false) : s.idle = s.count.runLocal := by
  obtain ⟨hlu, hconfig⟩ := s.count.runLocal_keeps
  unfold State.idle
  dsimp only
  rw [h, Bool.false_and, Bool.false_and, if_neg Bool.false_ne_true, State.runLine_quiet (by rw [State.lineDue_congr hlu hconfig, h])]

theorem State.idle_of_localQuiet {s : State} (h : s.count.localDue = false) : s.idle = s.count.runLine := by
  unfold State.idle
  dsimp only
  rw [h, Bool.and_false, Bool.false_and, if_neg Bool.false_ne_true, State.runLocal_quiet h]

/-- Both counts are taken, in one order or the other (log entry 6). -/
theorem State.idle_cases (s : State) : s.idle = s.count.runLine.runLocal ∨ s.idle = s.count.runLocal.runLine := by
  unfold State.idle
  dsimp only
  split
  · exact .inl rfl
  · exact .inr rfl

/-- The event of a line timer that runs out is what the idle millisecond takes of the line. -/
theorem State.exec_lineEvent {s : State} {d : Instr}
    (h : (d = .roundTimerExpiry ∧ s.online = true ∧ s.lu.pos = .rest ∧ s.lu.roundTimer = some 0) ∨
      (d = .listenWindowExpiry ∧ s.searching = true ∧ s.lu.listenWindow = some 0) ∨
      (d = .lineReleased ∧ s.waitingRelease = true ∧ s.roundPeriodMs ≤ s.lu.recessiveTime)) : exec d s = .next s.runLine := by
  rcases h with ⟨rfl, h⟩ | ⟨rfl, h⟩ | ⟨rfl, h⟩
  · rw [State.runLine_round h]; rfl
  · rw [State.runLine_window h]; rfl
  · rw [State.runLine_release h]; rfl

/-- The event of a count of the Prompt Timer or of the pulse that runs out is what the idle millisecond takes of them. -/
theorem State.exec_localEvent {s : State} {c : Instr}
    (h : (c = .promptWarning ∧ (s.pt.state = .running ∧ s.pt.remaining ≤ s.warningLead) ∧ s.ru.state ≠ .pulsing) ∨
      (c = .promptLapsed ∧ (s.pt.state = .warned ∧ s.pt.remaining = 0) ∧ s.ru.state ≠ .pulsing) ∨
      (c = .pulseEnd ∧ (s.ru.state = .pulsing ∧ s.ru.pulse = 0) ∧ s.pt.state = .disarmed)) : exec c s = .next s.runLocal := by
  rcases h with ⟨rfl, h, hr⟩ | ⟨rfl, h, hr⟩ | ⟨rfl, h, hp⟩
  · rw [State.runLocal_warning h hr]; rfl
  · rw [State.runLocal_lapse h hr]; rfl
  · rw [State.runLocal_pulse h hp]; rfl

/-- A count of the Prompt Timer or of the pulse that runs out in this millisecond is due in every state with the counted timer and Reset Unit. -/
theorem State.exec_localEvent_counted {s u : State} {c : Instr}
    (h : (c = .promptWarning ∧ s.pt.state = .running ∧ s.pt.remaining ≤ s.warningLead + 1 ∧ s.ru.state ≠ .pulsing) ∨
      (c = .promptLapsed ∧ s.pt.state = .warned ∧ s.pt.remaining ≤ 1 ∧ s.ru.state ≠ .pulsing) ∨
      (c = .pulseEnd ∧ s.ru.state = .pulsing ∧ s.ru.pulse ≤ 1 ∧ s.pt.state = .disarmed))
    (hp : u.pt = s.count.pt) (hr : u.ru = s.count.ru) (hc : u.hp.config = s.hp.config) : exec c u = .next u.runLocal := by
  obtain ⟨hpt, -, hremaining⟩ := s.count_pt
  obtain ⟨hru, -, -, hpulse⟩ := s.count_ru
  have hlead : u.warningLead = s.warningLead := by rw [State.warningLead, State.warningLead, State.cfg_congr hc]
  refine State.exec_localEvent ?_
  rw [hp, hr, hpt, hru, hremaining, hpulse, hlead]
  rcases h with ⟨rfl, hs, hle, hn⟩ | ⟨rfl, hs, hle, hn⟩ | ⟨rfl, hs, hle, hn⟩
  · exact .inl ⟨rfl, ⟨hs, by rw [if_pos (.inl hs)]; omega⟩, hn⟩
  · exact .inr (.inl ⟨rfl, ⟨hs, by rw [if_pos (.inr hs)]; omega⟩, hn⟩)
  · exact .inr (.inr ⟨rfl, ⟨hs, by rw [if_pos hs]; omega⟩, hn⟩)

/-- A line timer that runs out in this millisecond is due in every state with the counted Line Unit. -/
theorem State.exec_lineEvent_counted {s u : State} {d : Instr}
    (h : (d = .roundTimerExpiry ∧ (s.lu.state = .synced ∨ s.lu.state = .active) ∧ s.lu.pos = .rest ∧
        (s.lu.roundTimer = some 0 ∨ s.lu.roundTimer = some 1)) ∨
      (d = .listenWindowExpiry ∧ s.lu.state = .listening ∧ s.lu.waitRelease = false ∧
        (s.lu.listenWindow = some 0 ∨ s.lu.listenWindow = some 1)) ∨
      (d = .lineReleased ∧ s.lu.state = .listening ∧ s.lu.waitRelease = true ∧ s.roundPeriodMs ≤ s.lu.recessiveTime + 1))
    (hl : u.lu = s.count.lu) (hc : u.hp.config = s.hp.config) : exec d u = .next u.runLine := by
  refine State.exec_lineEvent ?_
  have hsearching : u.searching = s.count.searching := by rw [State.searching, hl, State.searching]
  have hwaiting : u.waitingRelease = s.count.waitingRelease := by rw [State.waitingRelease, hl, State.waitingRelease]
  have hperiod : u.roundPeriodMs = s.count.roundPeriodMs := State.roundPeriodMs_congr hc
  rw [State.online_of_lu hl, hsearching, hwaiting, hperiod, hl, s.count_roundDue, s.count_windowDue, s.count_releaseDue]
  exact h

/-- No count of the Prompt Timer or of the pulse is due where each leaves more than this millisecond. -/
theorem State.count_localDue {s : State} (hrunning : s.pt.state = .running → s.warningLead + 1 < s.pt.remaining)
    (hwarned : s.pt.state = .warned → 1 < s.pt.remaining) (hpulsing : s.ru.state = .pulsing → 1 < s.ru.pulse) :
    s.count.localDue = false := by
  obtain ⟨hpt, -, hremaining⟩ := s.count_pt
  obtain ⟨hru, -, -, hpulse⟩ := s.count_ru
  have hlead : s.count.warningLead = s.warningLead := rfl
  rw [State.localDue_eq_false_iff, hpt, hru, hremaining, hpulse, hlead]
  refine ⟨fun ⟨hs, hle⟩ => ?_, fun ⟨hs, hle⟩ => ?_, fun ⟨hs, hle⟩ => ?_⟩
  · have := hrunning hs
    rw [if_pos (.inl hs)] at hle
    omega
  · have := hwarned hs
    rw [if_pos (.inr hs)] at hle
    omega
  · have := hpulsing hs
    rw [if_pos hs] at hle
    omega

/-- Settles O3, by the two orders of the idle millisecond: what it takes of the line and what it takes of the other counts. -/
theorem idleMillisecond : Obligations.IdleMillisecond := by
  intro s hq roundDue windowDue releaseDue lineQuiet localQuiet counted
  have hstep : step s = .next s.idle := by rw [step, hq]
  have hcounted : s.count = counted := s.count_eq
  clear_value counted
  subst hcounted
  have hline (h : lineQuiet) : s.idle = s.count.runLocal := State.idle_of_lineQuiet (s.count_lineDue.2 h)
  have hquiet : localQuiet → s.count.localDue = false := fun ⟨hrunning, hwarned, hpulsing⟩ => State.count_localDue hrunning hwarned hpulsing
  obtain ⟨hpt, hexpected, hremaining⟩ := s.count_pt
  obtain ⟨hru, hattempt, hconfirmed, hpulse⟩ := s.count_ru
  refine ⟨fun h1 h2 => ?_, fun h1 hs hr hn => ?_, fun h1 hs hr hn => ?_, fun h1 hs hr hn => ?_, fun h2 => ?_, fun c d hc hd => ?_⟩
  · rw [hstep, hline h1, State.runLocal_quiet (hquiet h2)]
  · have hlead : s.count.pt.remaining = s.count.warningLead := by rw [hremaining, if_pos (.inl hs), hr]; rfl
    rw [hstep, hline h1, State.runLocal_warning ⟨hpt.trans hs, hlead.le⟩ (by rwa [hru]), State.warnTimer_eq (hpt.trans hs) hlead, hexpected]
  · have hzero : s.count.pt.remaining = 0 := by rw [hremaining, if_pos (.inr hs), hr]
    rw [hstep, hline h1, State.runLocal_lapse ⟨hpt.trans hs, hzero⟩ (by rwa [hru]), State.lapseTimer_eq (hpt.trans hs) hzero, hexpected]
  · have hzero : s.count.ru.pulse = 0 := by rw [hpulse, if_pos hs, hr]
    rw [hstep, hline h1, State.runLocal_pulse ⟨hru.trans hs, hzero⟩ (hpt.trans hn), State.endPulse_eq (hru.trans hs) hzero, hattempt, hconfirmed]
    rfl
  · have taken {d : Instr} (hd : (d = .roundTimerExpiry ∧ roundDue) ∨ (d = .listenWindowExpiry ∧ windowDue) ∨
        (d = .lineReleased ∧ releaseDue)) : step s = exec d s.count := by
      rw [hstep, State.idle_of_localQuiet (hquiet h2), State.exec_lineEvent_counted hd rfl rfl]
    exact ⟨fun hd => taken (.inl ⟨rfl, hd⟩), fun hd => taken (.inr (.inl ⟨rfl, hd⟩)), fun hd => taken (.inr (.inr ⟨rfl, hd⟩))⟩
  · have hstands : s.ru.state ≠ .waiting := by
      rcases hc with ⟨-, -, -, hi⟩ | ⟨-, -, -, hi⟩ | ⟨-, hi, -⟩ <;> rw [hi] <;> decide
    have notPulsing {p q r : Prop} : p ∧ q ∧ r ∧ s.ru.state = .idle → p ∧ q ∧ r ∧ s.ru.state ≠ .pulsing :=
      fun ⟨hp, hq, hr, hi⟩ => ⟨hp, hq, hr, by rw [hi]; decide⟩
    have hlocal := hc.imp notPulsing (Or.imp_left notPulsing)
    obtain ⟨hlu, hconfig⟩ := s.count.runLocal_keeps
    obtain ⟨hpt', hru', hconfig'⟩ := State.runLine_keeps (u := s.count) (by rwa [hru])
    rcases s.idle_cases with h | h
    · refine .inr ⟨_, State.exec_lineEvent_counted hd rfl rfl, ?_⟩
      rw [hstep, h, State.exec_localEvent_counted hlocal hpt' hru' hconfig']
    · refine .inl ⟨_, State.exec_localEvent_counted hlocal rfl rfl rfl, ?_⟩
      rw [hstep, h, State.exec_lineEvent_counted hd hlu hconfig]

end Sys2Proof.Machine
end

section
/-! SUPPORT. The command PROMPT, the report of the own host and the counts that run out: the bits of the condition flags, the failing condition by its
bits, the host state in IDLE, when a recovery window is due, and the statements that rest on them. -/

namespace Sys2Proof

/-- A bit vector that is not zero has an asserted bit. -/
theorem bitVec_ne_zero_iff {w : Nat} (x : BitVec w) : x ≠ 0 ↔ ∃ n, n < w ∧ x.getLsbD n = true := by
  rw [Ne, BitVec.eq_of_getLsbD_eq_iff]
  simp

end Sys2Proof

namespace Sys2Proof.Machine

/-! ### PROMPT (R101) -/

/-- Settles O29, by the state of the Prompt Timer and, where it runs, by the number. -/
theorem promptAnswered : Obligations.PromptAnswered := by
  intro s n hp hc
  have hexec : exec (.prompt n) s = .next (s.promptBody n) := congrArg Host.Outcome.next (State.takeIn_ifConfigured hp hc _)
  rw [hexec, State.promptBody]
  refine ⟨fun h => ?_, fun h => ?_, fun h hn => ?_, fun h hn => ?_⟩
  · rw [h]; rfl
  · rw [h]; rfl
  · rw [if_neg hn]
    rcases h with h | h <;> rw [h] <;> rfl
  · rw [if_pos hn]
    rcases h with h | h <;> rw [h] <;> rfl

/-! ### The report of the own host (R105, R121, R126, R128) -/

/-- Before configuration no flag is asserted and no failing condition stands (R126, R128). -/
theorem State.report_of_unconfigured {s : State} (h : s.hp.config = none) : s.condFlags = 0 ∧ s.failing = false := by
  rw [State.failing, State.condFlags, h]
  exact ⟨rfl, rfl⟩

/-- A flag is asserted with its input's level where the polarity bit is 0, and with the opposite level where it is 1 (R126, R171). -/
theorem State.condFlags_bit {s : State} {r : ConfigRecord} (h : s.hp.config = some r) {n : Nat} (hn : n < 4) :
    s.condFlags.getLsbD n = true ↔ (s.cm.levels.getLsbD n = true ↔ r.polarity.getLsbD n = false) := by
  have hflag : s.condFlags.getLsbD n = (s.cm.levels.getLsbD n ^^ r.polarity.getLsbD n) := by
    rw [State.condFlags, h]
    simp [hn]
  rw [hflag]
  cases s.cm.levels.getLsbD n <;> simp

/-- The failing condition stands when a flag that the fail mask names is asserted (R128). -/
theorem State.failing_iff {s : State} {r : ConfigRecord} (h : s.hp.config = some r) :
    s.failing = true ↔ ∃ n, n < 4 ∧ r.failMask.getLsbD n = true ∧ s.condFlags.getLsbD n = true := by
  have hmasked : s.failing = true ↔ s.condFlags &&& r.failMask.extractLsb' 0 4 ≠ 0 := by
    rw [State.failing, h]
    exact bne_iff_ne
  rw [hmasked, bitVec_ne_zero_iff]
  refine exists_congr fun n => and_congr_right fun hn => ?_
  simp [hn, and_comm]

/-- In IDLE the Prompt Timer and the failing condition alone give the reported host state (R121). -/
theorem State.ownHostState_idle {s : State} (h : s.ru.state = .idle) : s.ownHostState =
    if s.pt.state = .lapsed then .lapsed else if s.failing = true then .fault else if s.pt.state = .warned then .warned
    else if s.pt.state = .running then .running else .dormant := by
  rw [State.ownHostState, h]

/-- Settles O38, by the reset state, then by the order of R121 in IDLE, then by the configuration. -/
theorem ownHostStatePriority : Obligations.OwnHostStatePriority := by
  intro s
  refine ⟨fun h => ?_, fun h => ?_, fun h => ?_, State.report_of_unconfigured,
    fun r h => ⟨fun n hn => State.condFlags_bit h hn, State.failing_iff h⟩⟩
  · rw [State.ownHostState, h]
  · rcases h with h | h <;> rw [State.ownHostState, h]
  · rw [State.ownHostState_idle h]
    refine ⟨fun ht => ?_, fun ht hf => ?_, fun hf => ⟨fun ht => ?_, fun ht => ?_, fun ht => ?_⟩⟩
    · rw [if_pos ht]
    · rw [if_neg ht, if_pos hf]
    all_goals simp [ht, hf]

/-! ### The counts that run out (R98, R99, R111, R112, R113) -/

/-- The recovery window is due to end in WAITING alone, in its last recovery round (R113). -/
theorem State.windowDue_iff (s : State) : s.windowDue = true ↔ s.ru.state = .waiting ∧ s.ru.recovery ≤ 1 := by
  rw [State.windowDue, Bool.and_eq_true, beq_iff_eq, decide_eq_true_eq]

/-- Settles O57, event by event: in the state that the event asks for, and in any other. -/
theorem countsRunOut : Obligations.CountsRunOut := by
  intro s
  refine ⟨fun h => congrArg Host.Outcome.next ?_, fun h => congrArg Host.Outcome.next (if_neg h),
    fun h => congrArg Host.Outcome.next ?_, fun h => congrArg Host.Outcome.next (if_neg h),
    fun h => ⟨congrArg Host.Outcome.next ?_, congrArg Host.Outcome.next (if_pos h)⟩,
    fun h => ⟨congrArg Host.Outcome.next (if_neg h), congrArg Host.Outcome.next (if_neg h)⟩,
    fun h => congrArg Host.Outcome.next (if_neg fun hdue => ?_)⟩
  · rw [State.warnTimer, if_pos h]; rfl
  · rw [State.lapseTimer, if_pos h]; rfl
  · rw [State.endPulse, if_pos h]; rfl
  · obtain ⟨honline, hwindow⟩ := Bool.and_eq_true_iff.1 hdue
    obtain ⟨hwaiting, hlast⟩ := s.windowDue_iff.1 hwindow
    have hrounds := s.online_iff.1 honline
    rcases h with h | h | ⟨hsynced, hactive⟩
    · exact h hwaiting
    · exact absurd hlast (Nat.not_le.2 h)
    · exact hrounds.elim hsynced hactive

end Sys2Proof.Machine
end

section
/-! SUPPORT. The end of the recovery window and the release of a held host, and the statements about them. -/

namespace Sys2Proof.Machine

/-- An event after which the part is in one of two states: what the event does, and where that leads. -/
theorem next_or_next {x y a b : State} (hx : x = y) (h : y = a ∨ y = b) :
    (.next x : Host.Outcome State Fault Refusal) = .next a ∨ (.next x : Host.Outcome State Fault Refusal) = .next b := by
  subst hx
  exact h.imp (congrArg _) (congrArg _)

/-! ### The end of the recovery window (R113, R114, R115) -/

/-- The last recovery round ends the window (R113). -/
theorem State.countRecoveryRound_last {s : State} (hw : s.ru.state = .waiting) (hr : s.ru.recovery = 1) :
    s.countRecoveryRound = s.endWindow := by
  rw [State.countRecoveryRound, if_pos hw, if_pos hr.le]

/-- The part once the host is held and HOST_HELD posted, before the own entry becomes ABSENT (R115). -/
def State.hostHeld (s : State) : State :=
  { s with ru := { s.ru with state := .held, recovery := 0, rstout := true }, hp := (s.post (.hostHeld s.ru.attempt)).hp }

theorem State.hostHeld_ownAddr (s : State) : s.hostHeld.ownAddr = s.hp.address := s.post_address _

theorem State.hold_eq_moveEntry (s : State) : s.hold = s.hostHeld.moveEntry s.hp.address (Entry.moveTo .absent) := by
  rw [← s.hostHeld_ownAddr]
  exact congrArg (s.hostHeld.moveEntry · _) s.hostHeld_ownAddr.symm

/-- The hold, where the own entry is not ABSENT and the host does not accuse the own address (R4, R44, R115). -/
theorem State.hold_eq {s : State} (h : s.own.state ≠ .absent) (ha : inSet s.hp.address s.vu.hostAccused = false) : s.hold = { s with
    ru := { s.ru with state := .held, recovery := 0, rstout := true }
    vu := (s.setEntry s.hp.address s.own.gone).vu
    hp := (s.post (.hostHeld s.ru.attempt)).hp } := by
  have hgone : (s.hostHeld.entry s.hp.address).moveTo .absent = s.own.gone := Entry.moveTo_absent_eq_gone h
  rw [State.hold_eq_moveEntry, State.moveEntry_eq, hgone, if_neg (by exact Bool.noConfusion), eraseAddr_of_not_inSet _ _ (by exact ha)]
  rfl

/-- What the end of a window reads of the state: the address and the record, the Reset Unit, the table and the host accusation set. -/
structure SameWindow (s b : State) : Prop where
  setup : SameSetup s b
  ru : b.ru = s.ru
  table : b.vu.table = s.vu.table
  accused : b.vu.hostAccused = s.vu.hostAccused

theorem SameWindow.refl (s : State) : SameWindow s s := ⟨.of_hp rfl, rfl, rfl, rfl⟩

theorem SameWindow.roundBegun (s : State) (d : Driving) (fresh : Bool) (voters : AddrSet) : SameWindow s (s.roundBegun d fresh voters) :=
  ⟨.of_hp rfl, rfl, rfl, rfl⟩

theorem SameWindow.post {s b : State} (h : SameWindow s b) (e : Event) : SameWindow s (b.post e) :=
  ⟨h.setup.trans (.post e b), h.ru, h.table, h.accused⟩

theorem SameWindow.own {s b : State} (h : SameWindow s b) : b.own = s.own := by
  simp only [State.own, State.entry, State.ownAddr, h.table, h.setup.address]

/-- The window of `s` ends with the changes of `close` and the post of `e`, whatever the line, the votes and the queue are by then. -/
structure WindowCloses (s : State) (close : State → State) (e : Event) : Prop where
  ends : ∀ b, SameWindow s b → b.endWindow = { close b with hp := (b.post e).hp }
  line : ∀ b, (close b).lu = b.lu
  port : ∀ (b : State) (p q : HostPort), ({ close { b with hp := p } with hp := q } : State) = { close b with hp := q }

/-- Below the reset limit the next attempt starts (R114). -/
theorem WindowCloses.attempt {s : State} (h : s.ru.attempt < s.resetLimit) :
    WindowCloses s (fun b => { b with ru := s.attemptStarted }) (.attemptStart (s.ru.attempt + 1)) where
  ends b hb := by
    have hstarted : b.attemptStarted = s.attemptStarted := by
      rw [State.attemptStarted, State.attemptStarted, State.pulseMs, State.pulseMs, hb.setup.cfg, hb.ru]
    have hstart : b.startAttempt = { b with ru := b.attemptStarted, hp := (b.post (.attemptStart (b.ru.attempt + 1))).hp } := rfl
    rw [State.endWindow, if_pos (by rwa [hb.ru, hb.setup.resetLimit]), hstart, hstarted, hb.ru]
  line _ := rfl
  port _ _ _ := rfl

/-- At the reset limit the hold begins (R115). -/
theorem WindowCloses.hold {s : State} (h : s.ru.attempt = s.resetLimit) (ho : s.own.state ≠ .absent)
    (ha : inSet s.hp.address s.vu.hostAccused = false) :
    WindowCloses s (fun b => { b with
        ru := { s.ru with state := .held, recovery := 0, rstout := true }
        vu := (b.setEntry s.hp.address s.own.gone).vu })
      (.hostHeld s.ru.attempt) where
  ends b hb := by
    have hlimit : ¬ b.ru.attempt < b.resetLimit := by rw [hb.ru, hb.setup.resetLimit, h]; exact Nat.lt_irrefl _
    rw [State.endWindow, if_neg hlimit, State.hold_eq (by rwa [hb.own]) (by rwa [hb.setup.address, hb.accused]), hb.ru, hb.own,
      hb.setup.address]
  line _ := rfl
  port _ _ _ := rfl

section
variable {s : State} {close : State → State} {e : Event}

/-- The round beginning that brings the count to 0 (R113). -/
theorem WindowCloses.countRecoveryRound (h : WindowCloses s close e) (hw : s.ru.state = .waiting) (hr : s.ru.recovery = 1) {b : State}
    (hb : SameWindow s b) : b.countRecoveryRound = { close b with hp := (b.post e).hp } := by
  rw [State.countRecoveryRound_last (by rwa [hb.ru]) (by rwa [hb.ru]), h.ends b hb]

/-- A round begins at a station in SYNCED or ACTIVE with the last recovery round (R75, R113). -/
theorem WindowCloses.beginRound (h : WindowCloses s close e) (hw : s.ru.state = .waiting) (hr : s.ru.recovery = 1) {voters : AddrSet}
    (hv : ∀ a : Addr, inSet a voters = (s.entry a).state.isMember) (d : Driving) : s.beginRound d =
      { close (s.roundBegun d false voters) with hp := ((s.roundBegun d false voters).post e).hp } := by
  rw [State.beginRound, State.startRound_eq hv, h.countRecoveryRound hw hr (.roundBegun s d false voters)]

/-- A searching station enters SYNCED or ACTIVE with the last recovery round: LINE_SYNCED stands before or after the end of the window (R78,
R113). -/
theorem WindowCloses.enterSynced (h : WindowCloses s close e) (hw : s.ru.state = .waiting) (hr : s.ru.recovery = 1) {voters : AddrSet}
    (hv : ∀ a : Addr, inSet a voters = (s.entry a).state.isMember) (d : Driving) (way : WayOfEntry) :
    let b := s.roundBegun d true voters
    s.enterSynced d way = { close b with hp := (b.postAll [e, .lineSynced way]).hp } ∨
    s.enterSynced d way = { close b with hp := (b.postAll [.lineSynced way, e]).hp } := by
  intro b
  have hb : SameWindow s b := .roundBegun s d true voters
  rw [State.enterSynced, State.startRound_eq hv]
  dsimp only
  split
  · left
    rw [h.countRecoveryRound hw hr hb]
    exact State.postAll_frame (x := { close b with hp := (b.post e).hp }) (y := b.post e) rfl (congrArg LineUnit.roundNumber (h.line b))
      [.lineSynced way]
  · right
    rw [h.countRecoveryRound hw hr (hb.post _)]
    exact h.port b (b.post (.lineSynced way)).hp _

end

/-- Settles O35: what ends with the window (WindowCloses), at each way in which a round begins. -/
theorem recoveryWindowEnds : Obligations.RecoveryWindowEnds := by
  intro s voters hw hr hv online ends
  have key {close : State → State} {e : Event} (h : WindowCloses s close e) : ends close e := by
    refine ⟨fun ho hp => ⟨congrArg Host.Outcome.next ?_, congrArg Host.Outcome.next ?_⟩, fun hl hn => ⟨?_, ?_⟩,
      fun ho => congrArg Host.Outcome.next ?_⟩
    · rw [State.takeMark, if_pos (State.online_of ho), if_pos hp]
      exact h.beginRound hw hr hv .nothing
    · rw [State.expireRoundTimer, if_pos ⟨State.online_of ho, hp⟩]
      exact h.beginRound hw hr hv .mark
    · have htake : s.takeMark = s.enterSynced .nothing .markObserved := by
        rw [State.takeMark, if_neg (State.not_online (by simp [hl])), if_pos (s.searching_iff.2 ⟨hl, hn⟩)]
      exact next_or_next htake (h.enterSynced hw hr hv .nothing .markObserved)
    · exact next_or_next (if_pos (s.searching_iff.2 ⟨hl, hn⟩)) (h.enterSynced hw hr hv .mark .ownMark)
    · rw [if_pos (Bool.and_eq_true_iff.2 ⟨State.online_of ho, s.windowDue_iff.2 ⟨hw, hr.le⟩⟩)]
      exact h.ends s (.refl s)
  exact ⟨fun h => key (.attempt h), fun h ho ha => key (.hold h (by rw [ho]; decide) ha)⟩

/-! ### The round end of a station whose own entry is ABSENT (R36) -/

/-- An entry that is a member is a peer's. -/
theorem State.ne_address_of_isMember {s : State} (h : s.own.state = .absent) {j : Addr} (hm : (s.entry j).state.isMember = true) :
    j ≠ s.hp.address := by
  rintro rfl
  have habsent : (s.entry s.hp.address).state = .absent := h
  rw [habsent] at hm
  exact Bool.noConfusion hm

theorem State.post_own (e : Event) (s : State) : (s.post e).own = s.own := State.own_of (s.post_vu e) (s.post_address e)

theorem State.suspect_own_of_absent {s : State} (h : s.own.state = .absent) (j : Addr) (c : SuspectCause) : (s.suspect j c).own = s.own := by
  unfold State.suspect
  split
  · next hm => rw [State.post_own, State.own_modifyEntry_peer (State.ne_address_of_isMember h (by rw [hm]; rfl))]
  · rfl

theorem State.testEvidence_own_of_absent {s : State} (h : s.own.state = .absent) (j : Addr) : (s.testEvidence j).own = s.own := by
  unfold State.testEvidence
  split
  · exact State.suspect_own_of_absent h j _
  · rfl

/-- Miss accounting leaves the own entry alone (R10). -/
theorem State.accountMiss_own_of_absent {s : State} (h : s.own.state = .absent) (j : Addr) : (s.accountMiss j).own = s.own := by
  unfold State.accountMiss
  split
  · rfl
  · next hj =>
    have hpeer : j ≠ s.hp.address := fun hc => hj (.inl hc)
    generalize hx : s.modifyEntry j (fun e => { e with missCount := satAdd Config.missMax e.missCount }) = x
    have hown : x.own = s.own := by rw [← hx, State.own_modifyEntry_peer hpeer]
    have haddr : j ≠ x.hp.address := by rw [← hx]; exact hpeer
    have hgone (e : Event) : ((x.moveEntry j (Entry.moveTo .absent)).post e).own = s.own := by
      rw [State.post_own, State.own_moveEntry_peer haddr, hown]
    have htest : (x.testEvidence j).own = s.own := by rw [State.testEvidence_own_of_absent (by rwa [hown]), hown]
    dsimp only
    split
    · exact hown
    · cases (x.entry j).state with
      | recovering => exact hgone _
      | joining => exact hgone _
      | member => exact htest
      | suspect => exact htest
      | absent => exact htest

theorem State.endSplits_own_state (j : Addr) (s : State) : (s.endSplits j).own.state = s.own.state := by
  rw [State.own, State.endSplits, State.entry_modifyEntry]
  split
  · next h => rw [State.own, State.ownAddr, ← h]; rfl
  · rfl

/-- A verdict leaves an ABSENT own entry ABSENT and starts no attempt: the own address is no member to be condemned (R37, R38). -/
theorem State.applyVerdict_absent {s : State} (h : s.own.state = .absent) (c k : AddrSet) (j : Addr) :
    (s.applyVerdict c k j).own.state = .absent ∧ (s.applyVerdict c k j).ru = s.ru := by
  have hended : (s.endSplits j).own.state = .absent := by rw [State.endSplits_own_state, h]
  have hcleared : ((s.endSplits j).clearEntry j).own.state = .absent ∧ ((s.endSplits j).clearEntry j).ru = s.ru := by
    refine ⟨?_, by simp⟩
    unfold State.clearEntry
    split
    · next hs =>
      rw [State.post_own, State.own_modifyEntry_peer (State.ne_address_of_isMember hended (by rw [hs.1]; rfl)), hended]
    · exact hended
  unfold State.applyVerdict
  cases verdictOf c k j with
  | none => exact hcleared
  | clear => exact hcleared
  | split =>
    dsimp only
    split
    · next hm =>
      have hpeer : j ≠ (s.suspect j .split).hp.address := by simpa using State.ne_address_of_isMember h hm
      exact ⟨by rw [State.splitEntry, State.post_own, State.own_modifyEntry_peer hpeer, State.suspect_own_of_absent h, h], s.splitEntry_ru j⟩
    · exact ⟨h, rfl⟩
  | condemn =>
    dsimp only
    split
    · next hm =>
      have hpeer := State.ne_address_of_isMember h hm
      rw [if_neg (by exact hpeer)]
      exact ⟨by rw [State.condemnPeer, State.post_own, State.own_moveEntry_peer hpeer, h], s.condemnPeer_ru j⟩
    · exact ⟨hended, rfl⟩

/-- The own entry is ABSENT, beside a Reset Unit that stands as `r`. -/
def AbsentBeside (r : ResetUnit) (t : State) : Prop := t.own.state = .absent ∧ t.ru = r

/-- The round-end work of a station whose own entry is ABSENT leaves the Reset Unit alone (R36). -/
theorem State.roundEndWork_ru_of_absent {s : State} (h : s.own.state = .absent) (resynced : Bool) : (s.roundEndWork resynced).ru = s.ru := by
  have hmisses : AbsentBeside s.ru (if resynced then s else allAddrs.foldl (fun t j => t.accountMiss j) s) := by
    split
    · exact ⟨h, rfl⟩
    · exact foldl_keeps (AbsentBeside s.ru) _
        (fun t j ht => ⟨by rw [State.accountMiss_own_of_absent ht.1, ht.1], by rw [State.accountMiss_ru, ht.2]⟩) _ s ⟨h, rfl⟩
  have hverdicts := foldl_keeps (AbsentBeside s.ru) (fun t j => t.applyVerdict s.lu.condemnField s.lu.clearField j)
    (fun t j ht => (State.applyVerdict_absent ht.1 _ _ j).imp_right (·.trans ht.2)) allAddrs _ hmisses
  rw [State.roundEndWork, State.admissionStep_ru]
  exact hverdicts.2

/-! ### The release of a held host (R118, R119) -/

theorem State.releaseHost_eq (s : State) : s.releaseHost = { s with ru := s.ru.released, hp := (s.post .hostReleased).hp } := rfl

theorem State.releaseDue_iff (s : State) : s.releaseDue = true ↔ s.ru.state = .held ∧ s.ru.releaseRequested = true := by
  rw [State.releaseDue, Bool.and_eq_true, beq_iff_eq]

theorem State.releaseIfRequested_of_due {s : State} (h : s.ru.state = .held ∧ s.ru.releaseRequested = true) :
    s.releaseIfRequested = s.releaseHost := if_pos h

/-- A line event that ends the rounds carries a requested release out; its record stands before or after HOST_RELEASED (R119). -/
theorem State.postLeaving_releases {s : State} (h : s.ru.state = .held ∧ s.ru.releaseRequested = true) (e : Event) :
    s.postLeaving e = { s with ru := s.ru.released, hp := (s.postAll [e, .hostReleased]).hp } ∨
    s.postLeaving e = { s with ru := s.ru.released, hp := (s.postAll [.hostReleased, e]).hp } := by
  unfold State.postLeaving
  split
  · right
    rw [State.releaseIfRequested_of_due h]
    rfl
  · left
    rw [State.releaseIfRequested_of_due (by exact h)]
    rfl

/-- A release that is requested or has just been carried out leaves the Reset Unit released (R119). -/
theorem State.releaseIfRequested_ru {r : ResetUnit} (h : r.state = .held ∧ r.releaseRequested = true) {x : State}
    (hx : x.ru = r ∨ x.ru = r.released) : x.releaseIfRequested.ru = r.released := by
  rcases hx with hx | hx
  · rw [State.releaseIfRequested_of_due (by rwa [hx]), State.releaseHost_eq, hx]
  · have hidle : x.ru.state ≠ .held := by rw [hx]; exact ResetState.noConfusion
    rw [State.releaseIfRequested, if_neg (fun hc => hidle hc.1), hx]

theorem State.releaseIfRequested_own (s : State) : s.releaseIfRequested.own = s.own :=
  State.own_of s.releaseIfRequested_vu s.releaseIfRequested_address

theorem State.resync_own (s : State) : s.resync.own = s.own := State.own_of s.resync_vu s.resync_address

/-- A requested release is carried out with the round end, before or after the work of the other blocks (R119). -/
theorem State.endRound_releases {s : State} (ho : s.online = true) (hp : s.lu.pos = .verdict) (ha : s.own.state = .absent)
    (h : s.ru.state = .held ∧ s.ru.releaseRequested = true) (c k : AddrSet) : (s.endRound c k).ru = s.ru.released := by
  rw [State.endRound, if_pos ⟨ho, hp⟩]
  dsimp only
  generalize hx : State.sampleField c k { s with lu := { s.lu with pos := .rest, driving := .nothing } } = x
  generalize hy : (if x.releaseDue && Config.releaseBeforeResync then x.releaseIfRequested.resync else x.resync) = y
  have hxru : x.ru = s.ru := by rw [← hx]; rfl
  have hxown : x.own.state = .absent := by rw [← hx]; exact ha
  have hyru : y.ru = s.ru ∨ y.ru = s.ru.released := by
    rw [← hy]
    split
    · exact .inr (by rw [State.resync_ru, State.releaseIfRequested_ru h (.inl hxru)])
    · exact .inl (by rw [State.resync_ru, hxru])
  have hyown : y.own.state = .absent := by
    rw [← hy]
    split
    · rw [State.resync_own, State.releaseIfRequested_own, hxown]
    · rw [State.resync_own, hxown]
  split
  · rw [State.roundEndWork_ru_of_absent (by rw [State.releaseIfRequested_own, hyown]), State.releaseIfRequested_ru h hyru]
  · exact State.releaseIfRequested_ru h (by rwa [State.roundEndWork_ru_of_absent hyown])

/-- An event that ends the rounds, in the state `left` that the line and the View Unit have by then: what was posted before it, its own record and
HOST_RELEASED in either order (R85, R86, R119). -/
theorem State.postLeaving_releases_from {s left : State} (h : s.ru.state = .held ∧ s.ru.releaseRequested = true) (hru : left.ru = s.ru)
    (hround : left.lu.roundNumber = s.lu.roundNumber) {posts : List Event} (hp : left.hp = (s.postAll posts).hp) (e : Event) :
    left.postLeaving e = { left with ru := s.ru.released, hp := (s.postAll (posts ++ [e, .hostReleased])).hp } ∨
    left.postLeaving e = { left with ru := s.ru.released, hp := (s.postAll (posts ++ [.hostReleased, e])).hp } := by
  have hposts (es : List Event) : (left.postAll es).hp = (s.postAll (posts ++ es)).hp := by
    rw [State.postAll_append, State.postAll_frame hp (hround.trans (by rw [State.postAll_eq]))]
  rw [← hposts, ← hposts, ← hru]
  exact State.postLeaving_releases (by rwa [hru]) e

/-- An MCLR assertion that is taken in HELD requests the release while rounds pass and carries it out otherwise (R118, R119). -/
theorem exec_mclrAssertion_held {s : State} (hr : s.ru.mclrReady = true) (hh : s.ru.state = .held) : exec (.mclrAssertion true) s =
    .next (if s.online then { s with ru := { s.ru with mclrReady := false, releaseRequested := true } }
      else { s with ru := { s.ru with mclrReady := false } }.releaseHost) := by
  refine congrArg Host.Outcome.next ?_
  rw [if_pos hr]
  dsimp only
  rw [hh]
  rfl

/-- Settles O59: the pin by the reset state, then each line event that carries a requested release out. -/
theorem mclrReleasesHost : Obligations.MclrReleasesHost := by
  intro s ru
  refine ⟨rfl, fun h b => congrArg Host.Outcome.next (if_neg (by rw [h]; exact Bool.noConfusion)),
    fun hr => ⟨fun b hb => congrArg Host.Outcome.next ?_, fun hh => ⟨fun ho => ?_, fun hs ha => ?_⟩⟩,
    fun hh hq ho => ?_⟩
  · have hnot : ¬ (b && s.ru.state == .held) = true := by
      rw [Bool.and_eq_true, beq_iff_eq]
      rintro ⟨hb', hh⟩
      rcases hb with hb | hb
      · exact hb hh
      · rw [hb] at hb'
        exact Bool.noConfusion hb'
    rw [if_pos hr]
    exact if_neg hnot
  · rw [exec_mclrAssertion_held hr hh, if_pos (State.online_of ho)]
  · rw [exec_mclrAssertion_held hr hh, if_neg (State.not_online (not_or.2 ⟨hs, ha⟩))]
    rfl
  · intro leaves own
    refine ⟨fun c k hp ha => ⟨_, rfl, State.endRound_releases (State.online_of ho) hp ha ⟨hh, hq⟩ c k⟩, ?_, fun hl hd => ?_⟩
    · refine next_or_next (if_pos (State.online_of ho)) ?_
      apply State.postLeaving_releases_from ⟨hh, hq⟩ <;> rfl
    · have htake : s.takeCollision = (s.withdrawBlocked.leaveRounds .blocked).postLeaving .duplicateAddress := if_pos ⟨hl, hd⟩
      rw [State.withdrawBlocked_eq] at htake
      refine next_or_next htake ?_
      apply State.postLeaving_releases_from ⟨hh, hq⟩ <;> rfl

end Sys2Proof.Machine
end
section
/-! SUPPORT. The condition inputs: the filtered levels after one of them changes, and the statement about the command that changes it. -/

namespace Sys2Proof

/-- Inverting bit n gives the one vector that differs from the old one at n alone. -/
theorem xor_twoPow_eq {w : Nat} {x y : BitVec w} {n : Nat} (hn : y.getLsbD n ≠ x.getLsbD n)
    (hm : ∀ m, m ≠ n → y.getLsbD m = x.getLsbD m) : x ^^^ BitVec.twoPow w n = y := by
  apply BitVec.eq_of_getLsbD_eq
  intro m hw
  rw [BitVec.getLsbD_xor, BitVec.getLsbD_twoPow]
  by_cases h : m = n
  · subst h
    rw [Bool.eq_not_of_ne hn]
    simp [hw]
  · simp [hm m h, Ne.symm h]

end Sys2Proof

namespace Sys2Proof.Machine

/-! ### INPUT_CHANGE (R125, R126, R127) -/

/-- INPUT_CHANGE where a level changes: the new filtered levels, and the record where the station is configured (R125, R127). -/
theorem exec_inputChange_of_ne {s : State} {n : Fin 4} {levels : BitVec 4} (hn : s.cm.levels.getLsbD n.val ≠ levels.getLsbD n.val)
    (hm : ∀ m, m ≠ n.val → levels.getLsbD m = s.cm.levels.getLsbD m) {t : State} (ht : t = { s with cm := { s.cm with levels } }) :
    exec (.inputChange n (levels.getLsbD n.val)) s = .next (if t.configured then t.post (.inputChange t.condFlags) else t) := by
  refine congrArg Host.Outcome.next ?_
  rw [if_neg hn, xor_twoPow_eq hn.symm hm, ht]

/-- Settles O60, by whether the level is a change, then by the configured flag. -/
theorem inputChangeTaken : Obligations.InputChangeTaken := by
  intro s n level levels hlevel hm t
  subst hlevel
  refine ⟨fun hsame => congrArg Host.Outcome.next (if_pos hsame), fun hn hc => ?_, fun hn hc => ?_⟩
  · have hunconfigured : t.configured = false := Option.isSome_eq_false_iff.2 (Option.isNone_iff_eq_none.2 hc)
    rw [exec_inputChange_of_ne hn hm (t := t) rfl, hunconfigured]
    rfl
  · have hconfigured : t.configured = true := Option.isSome_iff_ne_none.2 hc
    rw [exec_inputChange_of_ne hn hm (t := t) rfl, if_pos hconfigured]

end Sys2Proof.Machine
end
section
/-! SUPPORT. The host port through every operation: the operations of the other blocks only post records, a command that is taken leaves a response that is
owed, and the statement that every step keeps the port. -/

namespace Sys2Proof.Machine

/-! ### Records posted (R156 to R160) -/

/-- The Host Port once records have been posted one after another, each enabled. -/
def HostPort.enqueueAll (rs : List EventRecord) (h : HostPort) : HostPort := rs.foldl (fun x r => x.enqueue r) h

/-- What every record that is posted keeps, they all keep. -/
theorem HostPort.enqueueAll_keeps {P : HostPort → Prop} (hP : ∀ r h, P h → P (h.enqueue r)) (rs : List EventRecord) {h : HostPort}
    (hh : P h) : P (h.enqueueAll rs) :=
  foldl_keeps P (fun x r => x.enqueue r) (fun x r => hP r x) rs h hh

/-- An operation does nothing to the Host Port but post records. -/
def OnlyPosts (s t : State) : Prop := ∃ rs : List EventRecord, t.hp = s.hp.enqueueAll rs

theorem OnlyPosts.of_hp {s t : State} (h : t.hp = s.hp) : OnlyPosts s t := ⟨[], h⟩

theorem OnlyPosts.refl (s : State) : OnlyPosts s s := .of_hp rfl

theorem OnlyPosts.trans {r s t : State} (h : OnlyPosts r s) (k : OnlyPosts s t) : OnlyPosts r t := by
  obtain ⟨rs, hrs⟩ := h
  obtain ⟨ss, hss⟩ := k
  refine ⟨rs ++ ss, ?_⟩
  rw [hss, hrs, HostPort.enqueueAll, HostPort.enqueueAll, HostPort.enqueueAll, List.foldl_append]

/-- An operation after an edit of the other blocks. -/
theorem OnlyPosts.edited {r s t : State} (k : OnlyPosts s t) (h : s.hp = r.hp) : OnlyPosts r t := (of_hp h).trans k

/-- The View Unit's items are none of the Host Port's. -/
theorem OnlyPosts.setView (s : State) (v : ViewUnit) : OnlyPosts s { s with vu := v } := .of_hp rfl

theorem OnlyPosts.ite {c : Prop} [Decidable c] {s t u : State} (ht : OnlyPosts s t) (hu : OnlyPosts s u) :
    OnlyPosts s (if c then t else u) := by
  split
  · exact ht
  · exact hu

theorem OnlyPosts.foldl {f : State → Addr → State} (hf : ∀ t a, OnlyPosts t (f t a)) (l : List Addr) (s : State) :
    OnlyPosts s (l.foldl f s) :=
  foldl_keeps (OnlyPosts s) f (fun t a h => h.trans (hf t a)) l s (.refl s)

theorem OnlyPosts.post (e : Event) (s : State) : OnlyPosts s (s.post e) := by
  rcases s.post_cases e with ⟨-, h⟩ | ⟨-, h⟩
  · rw [h]; exact ⟨[_], rfl⟩
  · rw [h]; exact .refl s

/-! ### The Peer Table and the frames -/

/-- Moving an entry stays within the View Unit. -/
theorem OnlyPosts.moveEntry (a : Addr) (f : Entry → Entry) (s : State) : OnlyPosts s (s.moveEntry a f) := .of_hp (by simp)

theorem OnlyPosts.countAccusations (k : Addr) (x : AddrSet) (s : State) : OnlyPosts s (s.countAccusations k x) := .of_hp (by simp)

theorem OnlyPosts.suspect (j : Addr) (c : SuspectCause) (s : State) : OnlyPosts s (s.suspect j c) :=
  .ite (.edited (.post _ _) rfl) (.refl s)

theorem OnlyPosts.testEvidence (j : Addr) (s : State) : OnlyPosts s (s.testEvidence j) := .ite (.suspect j _ s) (.refl s)

theorem OnlyPosts.postChanges (k : Addr) (old : Entry) (f : FrameBody) (s : State) : OnlyPosts s (s.postChanges k old f) := by
  have hflags : OnlyPosts s (if old.flags ≠ f.flags then s.post (.condition k f.flags) else s) := .ite (.post _ s) (.refl s)
  exact .ite (hflags.trans (.post _ _)) hflags

theorem OnlyPosts.compareView (k : Addr) (f : FrameBody) (posts : Bool) (s : State) : OnlyPosts s (s.compareView k f posts) :=
  .ite (.ite (.edited (.post _ _) rfl) (.of_hp rfl)) (.refl s)

theorem OnlyPosts.takeAccusations (k : Addr) (f : FrameBody) (s : State) : OnlyPosts s (s.takeAccusations k f) :=
  .trans (.ite (.foldl (fun t j => .ite (.suspect j _ t) (.refl t)) _ s) (.refl s)) (.countAccusations k _ _)

theorem OnlyPosts.adoptFrame (kind : FrameKind) (k : Addr) (f : FrameBody) (s : State) : OnlyPosts s (s.adoptFrame kind k f) :=
  .ite (((OnlyPosts.moveEntry k _ s).trans (.compareView k f false _)).trans (.countAccusations k _ _)) (.moveEntry k _ s)

/-- An entry is moved and the move reported. -/
theorem OnlyPosts.movePost (a : Addr) (f : Entry → Entry) (e : Event) (s : State) : OnlyPosts s ((s.moveEntry a f).post e) :=
  (OnlyPosts.moveEntry a f s).trans (.post e _)

theorem OnlyPosts.admitPeer (k : Addr) (f : FrameBody) (s : State) : OnlyPosts s (s.admitPeer k f) :=
  .trans (.edited (.post _ _) rfl) (.testEvidence k _)

theorem OnlyPosts.announceFromAbsent (k : Addr) (f : FrameBody) (s : State) : OnlyPosts s (s.announceFromAbsent k f) :=
  .ite (.of_hp rfl) (.ite (.of_hp rfl) (.edited (.post _ _) rfl))

theorem OnlyPosts.announceFromJoining (k : Addr) (f : FrameBody) (s : State) : OnlyPosts s (s.announceFromJoining k f) := by
  refine .ite (.movePost k _ _ s) ?_
  cases HostState.ofCode f.hostCode with
  | held => exact .movePost k _ _ s
  | resetting => exact .moveEntry k _ s
  | _ => exact .admitPeer k f s

theorem OnlyPosts.announceFromMember (k : Addr) (f : FrameBody) (s : State) : OnlyPosts s (s.announceFromMember k f) := by
  have reported : OnlyPosts s ((s.modifyEntry k (fun e => (e.recordIncarnation f).report f)).postChanges k (s.entry k) f) :=
    .edited (.postChanges k _ f _) rfl
  exact .ite (.movePost k _ _ s) (.ite (.movePost k _ _ s)
    (((reported.trans (.testEvidence k _)).trans (.compareView k f true _)).trans (.takeAccusations k f _)))

theorem OnlyPosts.applyAnnounce (k : Addr) (f : FrameBody) (s : State) : OnlyPosts s (s.applyAnnounce k f) := by
  unfold State.applyAnnounce
  cases (s.entry k).state with
  | absent => exact .announceFromAbsent k f s
  | joining => exact .announceFromJoining k f s
  | _ => exact .announceFromMember k f s

theorem OnlyPosts.countJoin (k : Addr) (f : FrameBody) (s : State) : OnlyPosts s (s.countJoin k f) :=
  .ite (.admitPeer k f s) (.edited (.postChanges k _ f _) rfl)

theorem OnlyPosts.restartPeer (k : Addr) (f : FrameBody) (s : State) : OnlyPosts s (s.restartPeer k f) :=
  ((OnlyPosts.moveEntry k _ s).trans (.postChanges k _ f _)).trans (.post _ _)

theorem OnlyPosts.applyJoin (k : Addr) (f : FrameBody) (s : State) : OnlyPosts s (s.applyJoin k f) := by
  have begun : OnlyPosts s (s.beginAdmission k f) := .moveEntry k _ s
  unfold State.applyJoin
  cases (s.entry k).state with
  | absent => exact begun
  | recovering => exact begun.trans (.postChanges k _ f _)
  | joining => exact .ite (begun.trans (.postChanges k _ f _)) (.countJoin k f s)
  | _ => exact .restartPeer k f s

theorem OnlyPosts.applyLeave (k : Addr) (f : FrameBody) (s : State) : OnlyPosts s (s.applyLeave k f) :=
  .ite (.moveEntry k _ s) (.movePost k _ _ s)

theorem OnlyPosts.applyFrame (kind : FrameKind) (k : Addr) (f : FrameBody) (s : State) : OnlyPosts s (s.applyFrame kind k f) := by
  have heard : OnlyPosts s (s.modifyEntry k (Entry.hear f)) := .of_hp rfl
  refine .ite (heard.trans (.adoptFrame kind k f _)) (heard.trans ?_)
  cases kind with
  | announce => exact .applyAnnounce k f _
  | join => exact .applyJoin k f _
  | leave => exact .applyLeave k f _

theorem OnlyPosts.applyForeign (k : Addr) (d : Word16) (s : State) : OnlyPosts s (s.applyForeign k d) := by
  have seen : OnlyPosts s (if (s.entry k).mismatchSeen then s
      else (s.modifyEntry k (fun e => { e with mismatchSeen := true })).post (.profileMismatch k d)) :=
    .ite (.refl s) (.edited (.post _ _) rfl)
  exact .ite (seen.trans (.of_hp rfl)) seen

theorem OnlyPosts.takeFrame (kind : FrameKind) (k : Addr) (f : FrameBody) (s : State) : OnlyPosts s (s.takeFrame kind k f) :=
  .ite (.edited (.applyForeign k _ _) rfl) (.ite (.of_hp rfl) (.edited (.applyFrame kind k f _) rfl))

theorem OnlyPosts.closeSlot (k : Addr) (r : Reception) (s : State) : OnlyPosts s (s.closeSlot k r) := by
  refine .ite ?_ (.refl s)
  cases r with
  | silent => exact .of_hp rfl
  | garbled => exact .of_hp rfl
  | frame kind body => exact .edited (.takeFrame kind k body _) rfl

/-! ### The own slot and the verdict field -/

theorem OnlyPosts.composeOwn (s : State) : OnlyPosts s s.composeOwn :=
  .edited (.trans (.ite (.suspect _ .self _) (.refl _)) (.countAccusations _ _ _)) rfl

theorem OnlyPosts.startOwnSlot (s : State) : OnlyPosts s s.startOwnSlot :=
  .ite ((OnlyPosts.composeOwn s).trans (.of_hp rfl)) (.refl s)

theorem OnlyPosts.reportWhole (s : State) : OnlyPosts s s.reportWhole := by
  unfold State.reportWhole
  cases s.lu.ownFrame with
  | none => exact .refl s
  | some fr => exact .ite (.of_hp rfl) (.of_hp rfl)

theorem OnlyPosts.endOwnSlot (clean : Bool) (s : State) : OnlyPosts s (s.endOwnSlot clean) :=
  .ite (.ite (.ite (.edited (.reportWhole _) rfl) (.of_hp rfl)) (.of_hp rfl)) (.refl s)

theorem OnlyPosts.startField (s : State) : OnlyPosts s s.startField := .ite (.of_hp rfl) (.refl s)

/-! ### The Prompt Timer and the Reset Unit -/

theorem OnlyPosts.warnTimer (s : State) : OnlyPosts s s.warnTimer := .ite (.edited (.post _ _) rfl) (.refl s)

theorem OnlyPosts.lapseTimer (s : State) : OnlyPosts s s.lapseTimer := .ite (.edited (.post _ _) rfl) (.refl s)

theorem OnlyPosts.startAttempt (s : State) : OnlyPosts s s.startAttempt := .edited (.post _ _) rfl

theorem OnlyPosts.endPulse (s : State) : OnlyPosts s s.endPulse := .ite (.edited (.post _ _) rfl) (.refl s)

theorem OnlyPosts.endWindow (s : State) : OnlyPosts s s.endWindow := by
  have held : OnlyPosts s s.hold := .trans (.edited (.post _ _) rfl) (.moveEntry _ _ _)
  exact .ite (.startAttempt s) held

theorem OnlyPosts.countRecoveryRound (s : State) : OnlyPosts s s.countRecoveryRound :=
  .ite (.ite (.endWindow s) (.of_hp rfl)) (.refl s)

theorem OnlyPosts.rejoin (s : State) : OnlyPosts s s.rejoin :=
  .ite (.trans (.edited (.post _ _) rfl) (.of_hp rfl)) (.refl s)

theorem OnlyPosts.releaseHost (s : State) : OnlyPosts s s.releaseHost := .edited (.post _ _) rfl

theorem OnlyPosts.releaseIfRequested (s : State) : OnlyPosts s s.releaseIfRequested := .ite (.releaseHost s) (.refl s)

theorem OnlyPosts.postLeaving (e : Event) (s : State) : OnlyPosts s (s.postLeaving e) :=
  .ite ((OnlyPosts.releaseIfRequested s).trans (.post e _)) ((OnlyPosts.post e s).trans (.releaseIfRequested _))

theorem OnlyPosts.depart (s : State) : OnlyPosts s s.depart := by
  have cleared : OnlyPosts s { s.disarmTimer with vu := { s.vu with hostAccused := 0 }, cm := { s.cm with service := 0 } } := .of_hp rfl
  exact ((cleared.trans (.ite (.post _ _) (.refl _))).trans (.moveEntry _ _ _)).trans (.setView _ _)

/-! ### The round end -/

theorem OnlyPosts.accountMiss (j : Addr) (s : State) : OnlyPosts s (s.accountMiss j) := by
  have missed : OnlyPosts s (s.modifyEntry j (fun e => { e with missCount := satAdd Config.missMax e.missCount })) := .of_hp rfl
  refine .ite (.refl s) (missed.trans (.ite (.refl _) ?_))
  generalize s.modifyEntry j (fun e => { e with missCount := satAdd Config.missMax e.missCount }) = x
  cases (x.entry j).state with
  | recovering => exact .movePost j _ _ x
  | joining => exact .movePost j _ _ x
  | _ => exact .testEvidence j x

theorem OnlyPosts.condemnOwn (s : State) : OnlyPosts s s.condemnOwn :=
  .trans (.edited (.post _ _) rfl) (.edited (.startAttempt _) rfl)

theorem OnlyPosts.splitEntry (j : Addr) (s : State) : OnlyPosts s (s.splitEntry j) :=
  (OnlyPosts.suspect j .split s).trans (.edited (.post _ _) rfl)

theorem OnlyPosts.clearEntry (j : Addr) (s : State) : OnlyPosts s (s.clearEntry j) := .ite (.edited (.post _ _) rfl) (.refl s)

theorem OnlyPosts.applyVerdict (c k : AddrSet) (j : Addr) (s : State) : OnlyPosts s (s.applyVerdict c k j) := by
  unfold State.applyVerdict
  cases verdictOf c k j with
  | none => exact .edited (.clearEntry j _) rfl
  | clear => exact .edited (.clearEntry j _) rfl
  | split => exact .ite (.splitEntry j s) (.refl s)
  | condemn => exact .ite (.ite (.condemnOwn s) (.movePost j _ _ s)) (.of_hp rfl)

theorem OnlyPosts.completeAdmission (s : State) : OnlyPosts s s.completeAdmission := by
  have tested (x : State) : OnlyPosts x (allAddrs.foldl (fun t j => t.testEvidence j) x) := .foldl (fun t j => .testEvidence j t) _ x
  have armed : OnlyPosts s (s.modifyEntry s.ownAddr (Entry.moveTo .member)).armTimer := .of_hp rfl
  exact (armed.trans (.post (.joinDone (s.modifyEntry s.ownAddr (Entry.moveTo .member)).armTimer.ownIncarnation) _)).trans (tested _)

theorem OnlyPosts.admissionStep (s : State) : OnlyPosts s s.admissionStep :=
  .ite (.ite (.movePost _ _ _ s) (.ite (.ite (.completeAdmission s) (.of_hp rfl)) (.refl s))) (.refl s)

theorem OnlyPosts.roundEndWork (resynced : Bool) (s : State) : OnlyPosts s (s.roundEndWork resynced) := by
  have missed : OnlyPosts s (if resynced then s else allAddrs.foldl (fun t j => t.accountMiss j) s) :=
    .ite (.refl s) (.foldl (fun t j => .accountMiss j t) allAddrs s)
  exact (missed.trans (.foldl (fun t j => .applyVerdict _ _ j t) allAddrs _)).trans (.admissionStep _)

theorem OnlyPosts.resync (s : State) : OnlyPosts s s.resync := by
  unfold State.resync
  cases s.lu.resyncNumber with
  | none => exact .refl s
  | some x => exact .edited (.post _ _) rfl

theorem OnlyPosts.endRound (condemn clear : AddrSet) (s : State) : OnlyPosts s (s.endRound condemn clear) := by
  have checked (x : State) : OnlyPosts x
      (if x.releaseDue && Config.releaseBeforeResync then x.releaseIfRequested.resync else x.resync) :=
    .ite ((OnlyPosts.releaseIfRequested x).trans (.resync _)) (.resync x)
  have worked (b : Bool) (x : State) : OnlyPosts x
      (if x.releaseDue && Config.releaseBeforeRoundEndWork then x.releaseIfRequested.roundEndWork b
        else (x.roundEndWork b).releaseIfRequested) :=
    .ite ((OnlyPosts.releaseIfRequested x).trans (.roundEndWork b _)) ((OnlyPosts.roundEndWork b x).trans (.releaseIfRequested _))
  exact .ite (.edited ((checked _).trans (worked _ _)) rfl) (.refl s)

/-! ### Entering and leaving the rounds -/

theorem OnlyPosts.restartMeasurement (s : State) : OnlyPosts s s.restartMeasurement := .ite (.of_hp rfl) (.refl s)

theorem OnlyPosts.stickLine (s : State) : OnlyPosts s s.stickLine :=
  .ite (.edited (.postLeaving _ _) rfl) (.restartMeasurement s)

theorem OnlyPosts.takeCollision (s : State) : OnlyPosts s s.takeCollision := by
  have withdrawn : OnlyPosts s s.withdrawBlocked :=
    ((OnlyPosts.moveEntry _ _ s).trans (.ite (.post _ _) (.refl _))).trans (.of_hp rfl)
  exact .ite (withdrawn.trans (.edited (.postLeaving _ _) rfl)) (.refl s)

theorem OnlyPosts.releaseLine (s : State) : OnlyPosts s s.releaseLine := .ite ((OnlyPosts.post _ s).trans (.of_hp rfl)) (.refl s)

theorem OnlyPosts.beginRound (d : Driving) (s : State) : OnlyPosts s (s.beginRound d) := .edited (.countRecoveryRound _) rfl

theorem OnlyPosts.enterSynced (d : Driving) (w : WayOfEntry) (s : State) : OnlyPosts s (s.enterSynced d w) :=
  .edited (.ite ((OnlyPosts.countRecoveryRound _).trans (.post _ _)) ((OnlyPosts.post _ _).trans (.countRecoveryRound _)))
    (s := (s.startRound d true).formVoters) rfl

theorem OnlyPosts.takeMark (s : State) : OnlyPosts s s.takeMark :=
  .ite (.ite (.beginRound _ s) (.refl s)) (.ite (.enterSynced _ _ s) (.restartMeasurement s))

theorem OnlyPosts.expireRoundTimer (s : State) : OnlyPosts s s.expireRoundTimer := .ite (.beginRound _ s) (.refl s)

theorem OnlyPosts.expireListenWindow (s : State) : OnlyPosts s s.expireListenWindow := .ite (.enterSynced _ _ s) (.refl s)

/-! ### Time -/

theorem OnlyPosts.runLocal (s : State) : OnlyPosts s s.runLocal :=
  .trans (.ite (.warnTimer s) (.ite (.lapseTimer s) (.refl s))) (.ite (.endPulse _) (.refl _))

theorem OnlyPosts.runLine (s : State) : OnlyPosts s s.runLine :=
  .ite (.expireRoundTimer s) (.ite (.expireListenWindow s) (.ite (.releaseLine s) (.refl s)))

theorem OnlyPosts.idle (s : State) : OnlyPosts s s.idle :=
  .edited (.ite ((OnlyPosts.runLine _).trans (.runLocal _)) ((OnlyPosts.runLocal _).trans (.runLine _))) (s := s.count) rfl

/-! ### What the port keeps (R137, R141, R161, R164, R165) -/

/-- The port agrees where another part's Host Port does. -/
theorem PortConsistent.of_hp {s t : State} (h : PortConsistent s) (e : t.hp = s.hp) : PortConsistent t :=
  ⟨by rw [e]; exact h.response, by rw [e]; exact h.advance, by rw [e]; exact h.event, by rw [e]; exact h.entry,
    by rw [e]; exact h.cursor⟩

/-- No post takes a record out of the queue (R158, R159, R160). -/
theorem HostPort.enqueue_queue_ne_nil {h : HostPort} (hq : h.queue ≠ []) (r : EventRecord) : (h.enqueue r).queue ≠ [] := by
  rcases h.enqueue_cases r with ⟨-, he⟩ | ⟨-, -, he⟩ | ⟨-, -, he⟩ | ⟨-, -, he⟩ <;> rw [he]
  · exact hq
  all_goals simp

/-- Posts leave the transaction and the snapshot buffer as they are, and the record answered at the head. -/
theorem PortConsistent.posts {s t : State} (h : PortConsistent s) (k : OnlyPosts s t) : PortConsistent t := by
  obtain ⟨rs, hrs⟩ := k
  have enqueued (r : EventRecord) (x : HostPort) (hx : PortConsistent { s with hp := x }) :
      PortConsistent { s with hp := x.enqueue r } := by
    refine ⟨?_, ?_, fun ha => HostPort.enqueue_queue_ne_nil (hx.event ?_) r, ?_, ?_⟩
    · simpa using hx.response
    · simpa using hx.advance
    · simpa using ha
    · simpa using hx.entry
    · simpa using hx.cursor
  exact PortConsistent.of_hp (HostPort.enqueueAll_keeps (P := fun x => PortConsistent { s with hp := x }) enqueued rs h) hrs

/-- Where no response is owed, only the cursor is left to agree. -/
theorem PortConsistent.of_quiet {t : State} (hp : t.hp.phase = .deselected ∨ t.hp.phase = .trailer) (hr : t.hp.response = none)
    (ha : t.hp.advance = none) (hc : t.hp.snapshot = none → t.hp.cursor = 0) : PortConsistent t where
  response := by rcases hp with hp | hp <;> simp [hp, hr]
  advance := by simp [ha]
  event := by simp [ha]
  entry := by simp [ha]
  cursor := hc

/-- A command that is answered leaves a response that is owed (R140); an advance that waits for it has its record or its copy (R161, R165). -/
theorem PortConsistent.answerWith {s : State} (hc : s.hp.snapshot = none → s.hp.cursor = 0) {adv : Option Advance}
    (hevent : adv = some .event → s.hp.queue ≠ []) (hentry : adv = some .entry → s.hp.snapshot.isSome = true) {st : Status}
    {data : List Byte} : PortConsistent (s.answerWith st data adv) where
  response := ⟨fun _ => .inl rfl, fun _ => rfl⟩
  advance := fun _ => rfl
  event := hevent
  entry := hentry
  cursor := hc

theorem PortConsistent.answer {s : State} (hc : s.hp.snapshot = none → s.hp.cursor = 0) {st : Status} {data : List Byte} :
    PortConsistent (s.answer st data) :=
  .answerWith (adv := none) hc nofun nofun

/-- A command whose owner only posts records is answered. -/
theorem PortConsistent.answerPosts {s t : State} (h : PortConsistent s) (k : OnlyPosts s t) {st : Status} {data : List Byte} :
    PortConsistent (t.answer st data) :=
  .answer (h.posts k).cursor

theorem PortConsistent.ite {c : Prop} [Decidable c] {t u : State} (ht : PortConsistent t) (hu : PortConsistent u) :
    PortConsistent (if c then t else u) := by
  split
  · exact ht
  · exact hu

/-! ### The host commands -/

theorem PortConsistent.configureBody {s : State} (h : PortConsistent s) (r : ConfigRecord) : PortConsistent (s.configureBody r) := by
  refine .ite (.answer h.cursor) (.ite (.answer h.cursor) (.answer ?_))
  exact h.cursor

/-- RESTART leaves the snapshot buffer FREE with cursor 0 (R152). -/
theorem PortConsistent.restartBody {s : State} (h : PortConsistent s) : PortConsistent s.restartBody :=
  .ite (.answer (fun _ => rfl)) (.answer h.cursor)

theorem PortConsistent.joinBody {s : State} (h : PortConsistent s) : PortConsistent s.joinBody := by
  refine .ite (h.answerPosts ?_) (.answer h.cursor)
  exact .edited (.rejoin _) rfl

theorem PortConsistent.leaveBody {s : State} (h : PortConsistent s) : PortConsistent s.leaveBody := by
  unfold State.leaveBody
  cases s.own.state with
  | absent => exact .answer h.cursor
  | recovering => exact .answer h.cursor
  | _ => exact h.answerPosts (.depart s)

theorem PortConsistent.accuseBody {s : State} (h : PortConsistent s) (a : Byte) : PortConsistent (s.accuseBody a) := by
  unfold State.accuseBody
  cases addrOfByte a with
  | none => exact .answer h.cursor
  | some j =>
    refine .ite (.answer h.cursor) (.ite (h.answerPosts ?_) (.answer h.cursor))
    exact .ite (.of_hp rfl) (.edited (.testEvidence j _) rfl)

theorem PortConsistent.pardonBody {s : State} (h : PortConsistent s) (a : Byte) : PortConsistent (s.pardonBody a) := by
  unfold State.pardonBody
  cases addrOfByte a with
  | none => exact .answer h.cursor
  | some j =>
    refine .answer ?_
    exact h.cursor

theorem PortConsistent.promptBody {s : State} (h : PortConsistent s) (n : Byte) : PortConsistent (s.promptBody n) := by
  unfold State.promptBody
  cases s.pt.state with
  | disarmed => exact .answer h.cursor
  | lapsed => exact .answer h.cursor
  | _ =>
    refine .ite (.answer ?_) (.answer h.cursor)
    exact h.cursor

theorem PortConsistent.publishBody {s : State} (h : PortConsistent s) (w : Word16) : PortConsistent (s.publishBody w) := by
  refine .answer ?_
  exact h.cursor

/-- The advance of READ_EVENT waits where the queue has a head record (R161). -/
theorem PortConsistent.readEventBody {s : State} (h : PortConsistent s) : PortConsistent s.readEventBody := by
  unfold State.readEventBody
  cases hq : s.hp.queue with
  | nil => exact .answer h.cursor
  | cons r rest => exact .answerWith (adv := some .event) h.cursor (fun _ => by simp [hq]) nofun

/-- The advance of READ_ENTRY waits where the buffer is LOADED (R165). -/
theorem PortConsistent.readEntryBody {s : State} (h : PortConsistent s) : PortConsistent s.readEntryBody := by
  unfold State.readEntryBody
  cases hc : s.hp.snapshot with
  | none => exact .answer h.cursor
  | some c => exact .answerWith (adv := some .entry) h.cursor nofun (fun _ => by simp [hc])

theorem PortConsistent.snapshotBody {s : State} (h : PortConsistent s) : PortConsistent s.snapshotBody := by
  unfold State.snapshotBody
  cases s.hp.snapshot with
  | none => exact .answer (fun _ => rfl)
  | some c => exact .answer h.cursor

theorem PortConsistent.runHostCommand {s : State} (h : PortConsistent s) (c : HostCommand) : PortConsistent (s.runHostCommand c) := by
  have configured {f : State → State} (hf : PortConsistent (f s)) : PortConsistent (s.ifConfigured f) := .ite hf (.answer h.cursor)
  cases c with
  | status => exact .answer h.cursor
  | configure r => exact h.configureBody r
  | restart => exact h.restartBody
  | join => exact configured h.joinBody
  | leave => exact configured h.leaveBody
  | accuse a => exact configured (h.accuseBody a)
  | pardon a => exact configured (h.pardonBody a)
  | prompt n => exact configured (h.promptBody n)
  | publish w => exact configured (h.publishBody w)
  | snapshot => exact configured h.snapshotBody
  | readEntry => exact configured h.readEntryBody
  | discardSnapshot => exact configured (.answer (fun _ => rfl))
  | readEvent => exact configured h.readEventBody

theorem PortConsistent.takeFrameBits {s : State} (h : PortConsistent s) (sdi : List Bool) : PortConsistent (s.takeFrameBits sdi) := by
  unfold State.takeFrameBits State.takeFrameBytes
  cases checkFrame (bytesOfBits sdi) with
  | incomplete => exact h
  | badCheck => exact .answer h.cursor
  | badCommand => exact .answer h.cursor
  | good c => exact h.runHostCommand c

/-! ### The transaction (R137, R141) -/

/-- A response delivered whole: the cursor moves on in the copy, or the buffer is FREE with cursor 0 (R165). -/
theorem HostPort.advanceCursor_free {h : HostPort} (hc : h.snapshot.isSome = true) (hf : h.advanceCursor.snapshot = none) :
    h.advanceCursor.cursor = 0 := by
  unfold HostPort.advanceCursor at hf ⊢
  split at hf
  · rw [show h.snapshot = none from hf] at hc
    exact absurd hc Bool.false_ne_true
  · rename_i hlast
    rw [if_neg hlast]

theorem PortConsistent.deliver {s : State} (h : PortConsistent s) : PortConsistent s.deliver := by
  refine .ite (.of_quiet (.inr rfl) rfl rfl ?_) h
  cases ha : s.hp.advance with
  | none => exact h.cursor
  | some adv =>
    cases adv with
    | event => exact h.cursor
    | entry => exact HostPort.advanceCursor_free (h.entry ha)

theorem PortConsistent.deselect {s : State} (h : PortConsistent s) : PortConsistent s.deselect := .of_quiet (.inl rfl) rfl rfl h.cursor

/-- A transaction begins with no response owed (R137). -/
theorem PortConsistent.select {s : State} (h : PortConsistent s) (hp : s.hp.phase = .deselected) :
    PortConsistent { s with hp := { s.hp with phase := .command } } where
  response := by simpa [hp] using h.response
  advance := h.advance
  event := h.event
  entry := h.entry
  cursor := h.cursor

/-- The response owed in TURNAROUND is owed in RESPONSE (R137). -/
theorem PortConsistent.respond {s : State} (h : PortConsistent s) (hp : s.hp.phase = .turnaround) :
    PortConsistent { s with hp := { s.hp with phase := .response } } where
  response := by simpa [hp] using h.response
  advance := h.advance
  event := h.event
  entry := h.entry
  cursor := h.cursor

/-! ### Every step -/

theorem OnlyPosts.externalReset (b : Bool) (s : State) : ∃ t, exec (.externalHostReset b) s = .next t ∧ OnlyPosts s t := by
  refine ⟨_, rfl, .ite (.ite ?_ (.of_hp rfl)) (.refl s)⟩
  have posted : OnlyPosts s (State.post .hostResetSeen { s with ru := { s.ru with rstLatched := true } }) := .edited (.post _ _) rfl
  generalize State.post .hostResetSeen { s with ru := { s.ru with rstLatched := true } } = x at posted ⊢
  refine posted.trans ?_
  dsimp only
  cases x.own.state with
  | absent => exact .refl x
  | recovering => exact .refl x
  | _ => exact .depart x

/-- Every command answers a next state whose port agrees: those of the transaction and the host commands by their own lemmas, every other one because it
only posts. -/
theorem exec_keepsPort (c : Instr) {s : State} (h : PortConsistent s) : ∃ t, exec c s = .next t ∧ PortConsistent t := by
  have posts {t : State} (he : exec c s = .next t) (k : OnlyPosts s t) : ∃ t, exec c s = .next t ∧ PortConsistent t :=
    ⟨t, he, h.posts k⟩
  have taken {f : State → State} (he : exec c s = .next (s.takeIn f)) (hf : PortConsistent (f s)) :
      ∃ t, exec c s = .next t ∧ PortConsistent t := ⟨_, he, .ite hf h⟩
  cases c with
  | powerOn straps levels rstsense => exact ⟨_, rfl, .of_quiet (.inl rfl) rfl rfl (fun _ => rfl)⟩
  | ncsAssert =>
    refine ⟨_, rfl, ?_⟩
    split
    · next hp => exact h.select hp
    · exact h
  | ncsRelease => exact ⟨_, rfl, h.deselect⟩
  | turnaroundEnd =>
    refine ⟨_, rfl, ?_⟩
    split
    · next hp => exact h.respond hp
    · exact h
  | responseDelivered => exact ⟨_, rfl, h.deliver⟩
  | badCommandFrame sdi => exact taken rfl (h.takeFrameBits sdi)
  | configure record => exact taken rfl (h.runHostCommand (.configure record))
  | status => exact taken rfl (h.runHostCommand .status)
  | restart => exact taken rfl (h.runHostCommand .restart)
  | join => exact taken rfl (h.runHostCommand .join)
  | leave => exact taken rfl (h.runHostCommand .leave)
  | accuse address => exact taken rfl (h.runHostCommand (.accuse address))
  | pardon address => exact taken rfl (h.runHostCommand (.pardon address))
  | prompt sequence => exact taken rfl (h.runHostCommand (.prompt sequence))
  | publish word => exact taken rfl (h.runHostCommand (.publish word))
  | snapshot => exact taken rfl (h.runHostCommand .snapshot)
  | readEntry => exact taken rfl (h.runHostCommand .readEntry)
  | discardSnapshot => exact taken rfl (h.runHostCommand .discardSnapshot)
  | readEvent => exact taken rfl (h.runHostCommand .readEvent)
  | roundMark => exact posts rfl (.takeMark s)
  | roundTimerExpiry => exact posts rfl (.expireRoundTimer s)
  | listenWindowExpiry => exact posts rfl (.expireListenWindow s)
  | ownSlotStart => exact posts rfl (.startOwnSlot s)
  | ownSlotEnd clean => exact posts rfl (.endOwnSlot clean s)
  | slotClose slot reading => exact posts rfl (.closeSlot slot _ s)
  | announceFrame slot frame => exact posts rfl (.closeSlot slot _ s)
  | joinFrame slot frame => exact posts rfl (.closeSlot slot _ s)
  | leaveFrame slot frame => exact posts rfl (.closeSlot slot _ s)
  | verdictFieldStart => exact posts rfl (.startField s)
  | roundEnd condemn clear => exact posts rfl (.endRound condemn clear s)
  | collision => exact posts rfl (.takeCollision s)
  | lineStuck => exact posts rfl (.stickLine s)
  | lineReleased => exact posts rfl (.releaseLine s)
  | promptWarning => exact posts rfl (.warnTimer s)
  | promptLapsed => exact posts rfl (.lapseTimer s)
  | pulseEnd => exact posts rfl (.endPulse s)
  | pulseConfirmed => exact posts rfl (.ite (.of_hp rfl) (.refl s))
  | externalHostReset begunInIdle =>
    obtain ⟨t, he, k⟩ := OnlyPosts.externalReset begunInIdle s
    exact posts he k
  | mclrAssertion begunInHeld =>
    exact posts rfl (.ite (.ite (.ite (.of_hp rfl) (.edited (.releaseHost _) rfl)) (.of_hp rfl)) (.refl s))
  | recoveryWindowEnd => exact posts rfl (.ite (.endWindow s) (.refl s))
  | inputChange input level => exact posts rfl (.ite (.refl s) (.ite (.edited (.post _ _) rfl) (.of_hp rfl)))
  | releaseMeasurementRestart => exact posts rfl (.restartMeasurement s)
  | mclrRelease => exact posts rfl (.of_hp rfl)
  | rstsenseRelease => exact posts rfl (.of_hp rfl)

/-- Settles O8: an idle millisecond only posts (OnlyPosts), and every command keeps the port. -/
theorem stepKeepsPort : Obligations.StepKeepsPort := by
  intro s t hs h
  unfold step at h
  cases hq : s.pending with
  | nil =>
    rw [hq] at h
    rw [← Host.Outcome.next.inj h]
    exact hs.posts (.idle s)
  | cons c rest =>
    rw [hq] at h
    obtain ⟨u, hu, hk⟩ := exec_keepsPort c (hs.of_hp (t := { s with pending := rest }) rfl)
    rw [← Host.Outcome.next.inj (hu.symm.trans h)]
    exact hk

end Sys2Proof.Machine
end

section
/-! SUPPORT. The part right after power-on, and the statements about POWER_ON, about the invariants right after it and about RESTART. -/

namespace Sys2Proof.Machine

/-- A host command that is offered in COMMAND is taken (R137, R138). -/
theorem State.takeIn_of_command {s : State} (hp : s.hp.phase = .command) (f : State → State) : s.takeIn f = f s := if_pos hp

/-! ### Power-on (R21, R154) -/

theorem State.powerOn_entry (own a : Addr) (levels : BitVec 4) (rstsense : Bool) :
    (State.powerOn own levels rstsense).entry a = { Entry.reset with incarnation := if a = own then some 0 else none } := by
  refine (ViewUnit.reset_table own a 0).trans ?_
  split <;> rfl

theorem State.powerOn_own (own : Addr) (levels : BitVec 4) (rstsense : Bool) :
    (State.powerOn own levels rstsense).own = { Entry.reset with incarnation := some 0 } :=
  (State.powerOn_entry own own levels rstsense).trans (by rw [if_pos rfl])

theorem ViewUnit.reset_tally (own j : Addr) (i : Byte) : (ViewUnit.reset own i).tally[j] = 0 := by simp [ViewUnit.reset]

/-- Settles O4: the blocks by their power-on values, the entries by the table that power-on sets. -/
theorem powerOnValues : Obligations.PowerOnValues := by
  intro straps levels rstsense s
  exact ⟨_, rfl, rfl, rfl, rfl, rfl, rfl, fun a => State.powerOn_entry _ a levels rstsense, rfl, rfl, rfl, rfl,
    fun j => ViewUnit.reset_tally _ j 0, rfl, rfl, rfl, rfl, rfl, rfl, rfl, rfl, rfl⟩

/-! ### The invariants right after power-on -/

section
variable (own : Addr) (levels : BitVec 4) (rstsense : Bool)

theorem QueueBounded.powerOn : QueueBounded (State.powerOn own levels rstsense) := ⟨Nat.zero_le _, Nat.zero_le _⟩

theorem CountsBounded.powerOn : CountsBounded (State.powerOn own levels rstsense) where
  voterCount := Nat.zero_le _
  quorum := Nat.zero_le _
  remaining := Nat.zero_le _
  attempt := Nat.zero_le _
  pulse := Nat.zero_le _
  recovery := Nat.zero_le _
  garbledTotal := Nat.zero_le _
  roundTimer := fun _ => nofun
  listenWindow := fun _ => nofun
  recessiveTime := Nat.zero_le _
  inStep := Nat.zero_le _
  outOfStep := Nat.zero_le _
  position := fun _ => nofun
  outcomes := Nat.zero_le _
  counted := le_rfl
  copy := fun _ => nofun

theorem PortConsistent.powerOn : PortConsistent (State.powerOn own levels rstsense) := .of_quiet (.inl rfl) rfl rfl (fun _ => rfl)

/-- A peer's entry and the own entry as power-on sets them (R1, R2, R21). -/
theorem EntryKept.reset (i : Option Byte) : EntryKept { Entry.reset with incarnation := i } :=
  ⟨Nat.zero_le _, Nat.zero_le _, by simp [Entry.reset], by simp [Entry.reset], fun h => absurd rfl h⟩

theorem TableKept.powerOn : TableKept (State.powerOn own levels rstsense) where
  entries := fun a => by rw [State.powerOn_entry]; exact .reset _
  own := by rw [State.powerOn_own]; exact ⟨rfl, rfl, rfl, rfl, rfl⟩
  copy := fun _ => nofun

theorem LineConsistent.powerOn : LineConsistent (State.powerOn own levels rstsense) := by
  constructor
  all_goals simp [State.powerOn, LineUnit.reset, HostPort.reset, State.online, State.searching]

theorem MembershipConsistent.powerOn : MembershipConsistent (State.powerOn own levels rstsense) := by
  have hown := State.powerOn_own own levels rstsense
  have hidle : (State.powerOn own levels rstsense).ru.state = .idle := rfl
  have hunaccused (a : Addr) : inSet a (State.powerOn own levels rstsense).vu.hostAccused = false := inSet_zero a
  refine .of_nonmember (by rw [hown]; rfl) rfl rfl hunaccused (fun _ => by rw [hown]; rfl) ?_ ?_ ?_ ?_
  all_goals simp [hown, hidle, Entry.reset]

theorem ResetConsistent.powerOn : ResetConsistent (State.powerOn own levels rstsense) := by
  constructor
  all_goals simp [State.powerOn, ResetUnit.reset]

theorem PartConsistent.powerOn : PartConsistent (State.powerOn own levels rstsense) :=
  ⟨.powerOn own levels rstsense, .powerOn own levels rstsense, .powerOn own levels rstsense⟩

theorem VotesConsistent.powerOn : VotesConsistent (State.powerOn own levels rstsense) where
  voterCount := by exact (by decide : 0 = setSize 0)
  tally := fun j a h => by
    rw [show (State.powerOn own levels rstsense).vu.tally[j] = 0 from ViewUnit.reset_tally own j 0, inSet_zero] at h
    exact absurd h Bool.false_ne_true
  quorum := fun h => absurd h Bool.false_ne_true
  oneSide := fun j h => absurd h.1 (Bool.eq_false_iff.1 (inSet_zero j))
  notOwn := ⟨inSet_zero _, inSet_zero _⟩

end

/-- Settles O5: every invariant holds right after any power-on, State.reset being one. -/
theorem resetMeetsEveryInvariant : Obligations.ResetMeetsEveryInvariant :=
  ⟨.of_fresh rfl rfl rfl rfl rfl, .powerOn 0 0 false, .powerOn 0 0 false, .powerOn 0 0 false, .powerOn 0 0 false, .powerOn 0 0 false,
    .powerOn 0 0 false, .powerOn 0 0 false⟩

/-! ### RESTART (R151, R152) -/

/-- Settles O24: the refusal, then every block of the accepted RESTART beside that of power-on, the entries by the table that RESTART sets. -/
theorem restartAnswered : Obligations.RestartAnswered := by
  intro s hp
  have hexec : exec .restart s = .next s.restartBody := congrArg Host.Outcome.next (State.takeIn_of_command hp _)
  rw [hexec, State.restartBody]
  refine ⟨fun h => ?_, fun ha hi => ?_⟩
  · rw [if_neg h]
    rfl
  · rw [if_pos ⟨ha, hi⟩]
    have hentry (a : Addr) : (s.restarted.answer .ok []).entry a = _ := ViewUnit.reset_table s.hp.address a s.ownIncarnation
    refine ⟨_, rfl, rfl, rfl, rfl, rfl, rfl, rfl, rfl, rfl, fun a hne => ?_, fun i hinc => ?_⟩
    · rw [hentry, State.powerOn_entry, if_neg hne, if_neg hne]
      rfl
    · have hkept : s.ownIncarnation = i := by rw [State.ownIncarnation, hinc]; rfl
      rw [State.powerOn_own, ← hkept]
      exact (hentry s.hp.address).trans (if_pos rfl)

end Sys2Proof.Machine
end

section
/-! SUPPORT. The command frames: the bytes of a frame from its bits, what the checks make of a whole frame and of a piece of one, the command that a code and
its parameters name; and the statements about the frames of the host port. -/

namespace Sys2Proof

/-! ### Bytes of the levels on SDI (R136) -/

/-- Fewer than eight bits carry no byte (R136). -/
theorem bytesOfBits_incomplete {cut : List Bool} (h : cut.length < 8) : bytesOfBits cut = [] := by
  unfold bytesOfBits
  split
  · simp only [List.length_cons] at h
    omega
  · rfl

theorem bytesOfBits_dataBits_append (bytes : List Byte) {cut : List Bool} (h : cut.length < 8) :
    bytesOfBits (dataBits bytes ++ cut) = bytes := by
  induction bytes with
  | nil => exact bytesOfBits_incomplete h
  | cons b bytes ih =>
    change byteOfBits _ _ _ _ _ _ _ _ :: bytesOfBits (dataBits bytes ++ cut) = b :: bytes
    rw [ih, byteOfBits_bitsOf]

/-! ### The checks of a frame (R138, R139) -/

/-- The checks of a frame whose last byte is there (R138, R139). -/
theorem checkFrame_complete (code : Byte) {len : Byte} {params : List Byte} (check : Byte) (h24 : len.toNat ≤ 24)
    (hlen : params.length = len.toNat) : checkFrame (code :: len :: params ++ [check]) =
      if check ≠ crc8 (code :: len :: params) then .badCheck
      else (HostCommand.ofParts code params).elim .badCommand .good := by
  have hdrop : (params ++ [check]).drop len.toNat = [check] := by rw [← hlen, List.drop_left]
  have htake : (params ++ [check]).take len.toNat = params := by rw [← hlen, List.take_left]
  rw [List.cons_append, List.cons_append, checkFrame, if_neg (by omega)]
  simp only [hdrop, htake]
  cases HostCommand.ofParts code params <;> rfl

/-- A piece without the check byte is incomplete (R138). -/
theorem checkFrame_piece (code : Byte) {len : Byte} {piece : List Byte} (h24 : len.toNat ≤ 24) (hlen : piece.length ≤ len.toNat) :
    checkFrame (code :: len :: piece) = .incomplete := by
  rw [checkFrame, if_neg (by omega), List.drop_eq_nil_of_le hlen]

/-! ### The command that a frame names (R170, R171) -/

theorem HostCommand.ofParts_params (c : HostCommand) : HostCommand.ofParts c.code c.params = some c := by
  cases c with
  | configure r =>
    change some (HostCommand.configure { r with promptPeriod := wordOf _ _, warningLead := wordOf _ _ }) = _
    rw [wordOf_highByte_lowByte, wordOf_highByte_lowByte]
  | publish w =>
    change some (HostCommand.publish (wordOf _ _)) = _
    rw [wordOf_highByte_lowByte]
  | _ => rfl

theorem HostCommand.length_params (c : HostCommand) : c.params.length ≤ 14 := by
  cases c with
  | configure r => exact le_rfl
  | _ => simp [HostCommand.params]

/-- The length byte of a command's frame (R170). -/
theorem HostCommand.lengthByte (c : HostCommand) : (byteOf c.params.length).toNat = c.params.length := by
  have := c.length_params
  rw [byteOf, BitVec.toNat_ofNat]
  omega

theorem highByte_wordOf (hi lo : Byte) : highByte (wordOf hi lo) = hi := by
  apply BitVec.eq_of_getLsbD_eq
  intro i hlt
  simp only [highByte, wordOf, BitVec.getLsbD_extractLsb', BitVec.getLsbD_append]
  simp [hlt]

theorem lowByte_wordOf (hi lo : Byte) : lowByte (wordOf hi lo) = lo := by
  apply BitVec.eq_of_getLsbD_eq
  intro i hlt
  simp only [lowByte, wordOf, BitVec.getLsbD_extractLsb', BitVec.getLsbD_append]
  simp [hlt]

/-- A two-byte field has its high byte first (R168). -/
theorem toNat_highByte_lowByte (w : Word16) : 256 * (highByte w).toNat + (lowByte w).toNat = w.toNat := by
  simp only [highByte, lowByte, BitVec.extractLsb'_toNat, Nat.shiftRight_eq_div_pow]
  omega

/-- The frame that the checks read as a command has its code and its parameters (R170). -/
theorem HostCommand.of_ofParts {code : Byte} {params : List Byte} {c : HostCommand} (h : HostCommand.ofParts code params = some c) :
    c.code = code ∧ c.params = params := by
  unfold HostCommand.ofParts at h
  split at h
  · split_ifs at h
    all_goals
      cases h
      exact ⟨Eq.symm ‹code = _›, rfl⟩
  · split_ifs at h
    all_goals
      cases h
      exact ⟨Eq.symm ‹code = _›, rfl⟩
  · split_ifs at h with hcode
    cases h
    exact ⟨hcode.symm, by rw [HostCommand.params, highByte_wordOf, lowByte_wordOf]⟩
  · split_ifs at h with hcode
    cases h
    refine ⟨hcode.symm, ?_⟩
    simp only [HostCommand.params, ConfigRecord.bytes, highByte_wordOf, lowByte_wordOf]
  · cases h

/-- A code and parameters that no command has name none (R139, R170). -/
theorem HostCommand.ofParts_eq_none {code : Byte} {params : List Byte} (h : ∀ c : HostCommand, ¬ (c.code = code ∧ c.params = params)) :
    HostCommand.ofParts code params = none :=
  Option.eq_none_iff_forall_ne_some.2 fun c hc => h c (HostCommand.of_ofParts hc)

/-! ### The frame of a command -/

theorem HostCommand.frame_eq (c : HostCommand) :
    c.frame = c.code :: byteOf c.params.length :: c.params ++ [crc8 (c.code :: byteOf c.params.length :: c.params)] := rfl

theorem HostCommand.checkFrame_frame (c : HostCommand) : checkFrame c.frame = .good c := by
  have hlen := c.lengthByte
  have hmax := c.length_params
  rw [c.frame_eq, checkFrame_complete c.code _ (by omega) hlen.symm, if_neg (not_not.2 rfl), c.ofParts_params,
    Option.elim_some]

theorem HostCommand.checkFrame_take (c : HostCommand) {n : Nat} (hn : n < c.frame.length) :
    checkFrame (c.frame.take n) = .incomplete := by
  have hlen := c.lengthByte
  have hmax := c.length_params
  rw [c.frame_eq] at hn ⊢
  simp only [List.length_append, List.length_cons, List.length_nil] at hn
  match n with
  | 0 => rfl
  | 1 => rfl
  | n + 2 =>
    rw [List.take_append_of_le_length (by simp only [List.length_cons]; omega), List.take_succ_cons, List.take_succ_cons]
    exact checkFrame_piece c.code (by omega) (by rw [List.length_take]; omega)

/-- Settles O15: the whole frame and its pieces by the checks, the parameters by the command, the bits by the induction over the bytes. -/
theorem commandFrameRoundTrip : Obligations.CommandFrameRoundTrip := by
  intro c
  refine ⟨c.checkFrame_frame, fun n hn => c.checkFrame_take hn, rfl, ?_, ?_, fun bytes cut h => bytesOfBits_dataBits_append bytes h⟩
  · cases c <;> rfl
  · cases c with
    | configure r =>
      exact ⟨rfl, rfl, rfl, rfl, rfl, toNat_highByte_lowByte _, toNat_highByte_lowByte _, rfl, rfl, rfl, rfl, rfl, rfl⟩
    | publish w => exact ⟨rfl, toNat_highByte_lowByte w⟩
    | _ => rfl

end Sys2Proof

namespace Sys2Proof.Machine

/-! ### BAD_COMMAND_FRAME (R136, R138, R139) -/

/-- In COMMAND the bytes that the levels on SDI make are taken; the bits of a byte left incomplete are discarded (R136). -/
theorem exec_badCommandFrame {s : State} (hp : s.hp.phase = .command) (bytes : List Byte) {cut : List Bool} (h : cut.length < 8) :
    exec (.badCommandFrame (dataBits bytes ++ cut)) s = .next (s.takeFrameBytes bytes) := by
  refine congrArg Host.Outcome.next ((State.takeIn_of_command hp _).trans ?_)
  rw [State.takeFrameBits, bytesOfBits_dataBits_append bytes h]

/-- Settles O20, by what the checks make of each frame: no byte, a length byte above 24, a wrong check byte, a right one under no command. -/
theorem badFrameAnswered : Obligations.BadFrameAnswered := by
  intro s code len cut hp hcut
  refine ⟨exec_badCommandFrame hp [] hcut, fun hlong => ?_, fun params check h24 hlen => ⟨fun hwrong => ?_, fun hright hnone => ?_⟩⟩
  · rw [exec_badCommandFrame hp _ hcut, State.takeFrameBytes, checkFrame, if_pos hlong]
    rfl
  · rw [exec_badCommandFrame hp _ hcut, State.takeFrameBytes, checkFrame_complete code check h24 hlen, if_pos hwrong]
    rfl
  · rw [exec_badCommandFrame hp _ hcut, State.takeFrameBytes, checkFrame_complete code check h24 hlen, if_neg (not_not.2 hright),
      HostCommand.ofParts_eq_none hnone]
    rfl

end Sys2Proof.Machine
end

section
/-! SUPPORT. The transaction and the commands of the host port that need no other block: SDO bit by bit, the commands that are not executed, CONFIGURE,
STATUS and READ_EVENT, and the statements about them. -/

namespace Sys2Proof.Machine

/-! ### SDO (R136, R137) -/

/-- A byte of a frame on SDO, its bits in the order in which they are clocked (R136). -/
theorem SdoLine.level_frame {bytes : List Byte} {n m : Nat} {b : Byte} (hb : bytes[n]? = some b) (hm : m < 8) :
    (SdoLine.frame bytes).level (8 * n + m) = some (b.getLsbD (7 - m)) := by
  have hdiv : (8 * n + m) / 8 = n := by omega
  have hmod : (8 * n + m) % 8 = m := by omega
  have hbyte : (SdoLine.frame bytes).byteAt n = some b := by
    rw [SdoLine.byteAt, List.getD_eq_getElem?_getD, hb, Option.getD_some]
  rw [SdoLine.level, hdiv, hmod, hbyte, Option.map_some]

/-- Every bit of filler is set (R137). -/
theorem SdoLine.level_filler (k : Nat) : SdoLine.filler.level k = some true := by
  have hset : ∀ j : Fin 8, fillerByte.getLsbD j = true := by decide
  exact congrArg some (hset ⟨7 - k % 8, by omega⟩)

theorem State.sdo_deselected {s : State} (h : s.hp.phase = .deselected) : s.sdo = .highImpedance := by rw [State.sdo, h]

theorem State.sdo_filler {s : State} (h : s.hp.phase = .command ∨ s.hp.phase = .turnaround ∨ s.hp.phase = .trailer) : s.sdo = .filler := by
  rw [State.sdo]
  rcases h with h | h | h <;> rw [h]

theorem State.sdo_response {s : State} {r : Response} (hp : s.hp.phase = .response) (hr : s.hp.response = some r) :
    s.sdo = .frame r.bytes := by rw [State.sdo, hp, hr]

/-- Settles O18, by the phase: the commands that change it and what SDO carries in it. -/
theorem transactionPhases : Obligations.TransactionPhases := by
  refine fun s => ⟨fun h => congrArg Host.Outcome.next (if_pos h), fun h => congrArg Host.Outcome.next (if_neg h), rfl,
    fun h => congrArg Host.Outcome.next (if_pos h), fun h => congrArg Host.Outcome.next (if_neg h), State.sdo_deselected,
    State.sdo_filler, fun r hp hr => ⟨State.sdo_response hp hr, fun n m b hb hm => ?_⟩, fun k => ⟨fun h => ?_, fun h => ?_⟩, rfl⟩
  · rw [State.sdoLevel, State.sdo_response hp hr]
    exact SdoLine.level_frame hb hm
  · rw [State.sdoLevel, State.sdo_deselected h]
    rfl
  · rw [State.sdoLevel, State.sdo_filler h]
    exact SdoLine.level_filler k

/-! ### Commands that are not executed (R137, R139, R143) -/

/-- Every row of a host command hands a taken frame to its owner. -/
theorem exec_hostCommand {r : ConfigRecord} {a b n : Byte} {w : Word16} {sdi : List Bool} {c : Instr}
    (hc : c ∈ [Instr.configure r, .status, .restart, .join, .leave, .accuse a, .pardon b, .prompt n, .publish w, .snapshot, .readEntry,
      .discardSnapshot, .readEvent, .badCommandFrame sdi]) : ∃ f : State → State, ∀ s, exec c s = .next (s.takeIn f) := by
  simp only [List.mem_cons, List.not_mem_nil, or_false] at hc
  rcases hc with rfl | rfl | rfl | rfl | rfl | rfl | rfl | rfl | rfl | rfl | rfl | rfl | rfl | rfl <;> exact ⟨_, fun _ => rfl⟩

/-- The ten rows of R139's third step ask for the configured flag first (R143). -/
theorem exec_configuredCommand {a b n : Byte} {w : Word16} {c : Instr}
    (hc : c ∈ [Instr.join, .leave, .accuse a, .pardon b, .prompt n, .publish w, .snapshot, .readEntry, .discardSnapshot, .readEvent]) :
    ∃ f : State → State, ∀ s, exec c s = .next (s.takeIn (State.ifConfigured f)) := by
  simp only [List.mem_cons, List.not_mem_nil, or_false] at hc
  rcases hc with rfl | rfl | rfl | rfl | rfl | rfl | rfl | rfl | rfl | rfl <;> exact ⟨_, fun _ => rfl⟩

theorem State.not_configured {s : State} (h : s.hp.config = none) : ¬ s.configured = true := by
  rw [State.configured, h]
  exact Bool.false_ne_true

/-- Settles O21, by the two tests that stand before every owner: the phase and the configured flag. -/
theorem commandsNotExecuted : Obligations.CommandsNotExecuted := by
  refine fun s r a b n w sdi c => ⟨fun hp hc => ?_, fun hp hnone hc => ?_⟩
  · obtain ⟨f, hf⟩ := exec_hostCommand hc
    rw [hf, State.takeIn, if_neg hp]
  · obtain ⟨f, hf⟩ := exec_configuredCommand hc
    rw [hf, State.takeIn_of_command hp, State.ifConfigured, if_neg (State.not_configured hnone)]
    rfl

/-! ### CONFIGURE (R144, R145, R146) -/

/-- The ranges of R144 and R171, field by field. -/
theorem recordInRange_iff (r : ConfigRecord) : recordInRange r = true ↔
    (2 ≤ r.roundPeriod.toNat ∧ 1 ≤ r.missLimit.toNat ∧ r.missLimit.toNat ≤ 7 ∧ 1 ≤ r.admitRounds.toNat ∧ r.admitRounds.toNat ≤ 8 ∧
      1 ≤ r.quorumFloor.toNat ∧ r.quorumFloor.toNat ≤ 16 ∧ 100 ≤ r.promptPeriod.toNat ∧ 10 ≤ r.warningLead.toNat ∧
      r.warningLead.toNat + 10 ≤ r.promptPeriod.toNat ∧ 2 ≤ r.recoveryRounds.toNat ∧ 1 ≤ r.resetLimit.toNat ∧
      r.resetLimit.toNat ≤ 7 ∧ 1 ≤ r.pulseDuration.toNat) ∧
    (r.failMask.toNat ≤ 15 ∧ r.polarity.toNat ≤ 15 ∧ r.enables.toNat ≤ 7) := by
  simp only [recordInRange, Bool.and_eq_true, decide_eq_true_eq]
  omega

/-- Settles O22, by the state test and then the values test. -/
theorem configureAnswered : Obligations.ConfigureAnswered := by
  intro s r hp inRange digest
  have hexec : exec (.configure r) s = .next (s.configureBody r) := congrArg Host.Outcome.next (State.takeIn_of_command hp _)
  have hrange : recordInRange r = true ↔ inRange := recordInRange_iff r
  rw [hexec, State.configureBody]
  refine ⟨fun hc => ?_, fun hnone hout => ?_, fun hnone hin => ?_⟩
  · rw [if_pos (by exact Option.isSome_iff_ne_none.2 hc)]
    rfl
  · rw [if_neg (State.not_configured hnone), Bool.eq_false_iff.2 (mt hrange.1 hout)]
    rfl
  · rw [if_neg (State.not_configured hnone), hrange.2 hin]
    rfl

/-! ### STATUS and READ_EVENT (R149, R150, R161) -/

/-- Settles O23, for READ_EVENT by the queue. -/
theorem statusAndReadEventAnswered : Obligations.StatusAndReadEventAnswered := by
  intro s hp
  have hread (hc : s.hp.config ≠ none) : exec .readEvent s = .next s.readEventBody :=
    congrArg Host.Outcome.next (State.takeIn_ifConfigured hp hc _)
  refine ⟨congrArg Host.Outcome.next (State.takeIn_of_command hp _), fun hc hq => ?_, fun r rest hc hq => ?_⟩
  · rw [hread hc, State.readEventBody, hq]
    rfl
  · rw [hread hc, State.readEventBody, hq]
    rfl

end Sys2Proof.Machine
end

section
/-! SUPPORT. The event queue and the snapshot buffer: posts by class, posts to a full queue and after losses, delivery, the snapshot commands, and the
statements about them. -/

namespace Sys2Proof.Machine

/-! ### Posts by class (R156, R157, R158) -/

theorem State.post_of_disabled {s : State} {e : Event} (h : s.hp.enabled (e.klass s.hp.address) = false) : s.post e = s := by
  rcases s.post_cases e with ⟨he, -⟩ | ⟨-, hpost⟩
  · rw [h] at he
    cases he
  · exact hpost

theorem State.post_of_enabled {s : State} {e : Event} (h : s.hp.enabled (e.klass s.hp.address) = true) :
    s.post e = { s with hp := s.hp.enqueue { round := s.lu.roundNumber, event := e } } := by
  rcases s.post_cases e with ⟨-, hpost⟩ | ⟨he, -⟩
  · exact hpost
  · rw [h] at he
    cases he

/-- A record that finds room and no loss joins the tail (R158). -/
theorem HostPort.enqueue_of_room {h : HostPort} (hroom : h.queue.length < 32) (hlost : h.lost = 0) (r : EventRecord) :
    h.enqueue r = { h with queue := h.queue ++ [r], int := true } := by
  rcases h.enqueue_cases r with ⟨hfull, -⟩ | ⟨-, -, he⟩ | ⟨-, hne, -⟩ | ⟨-, hne, -⟩
  · omega
  · exact he
  · exact absurd hlost hne
  · exact absurd hlost hne

/-- Settles O31, by the kind of the event for its class and by the room in the queue for its post. -/
theorem postsByClass : Obligations.PostsByClass := by
  refine ⟨fun own p i j n q f w x v c l jf ae wy => ?_, fun s k hnone => ?_, fun s r hr => ?_, fun s e he => State.post_of_disabled he,
    fun s e he hroom hlost => ?_⟩
  · simp [Event.klass]
  · unfold HostPort.enabled
    rw [hnone]
  · unfold HostPort.enabled
    rw [hr]
    exact ⟨rfl, rfl, rfl⟩
  · rw [State.post_of_enabled he, HostPort.enqueue_of_room hroom hlost]

/-! ### Posts to a full queue (R159) -/

/-- A record that finds the queue full is counted and nothing more (R159). -/
theorem HostPort.enqueue_of_full {h : HostPort} (hfull : h.queue.length = 32) (r : EventRecord) :
    h.enqueue r = { h with lost := satAdd 255 h.lost } := by
  rcases h.enqueue_cases r with ⟨-, he⟩ | ⟨hlt, -⟩ | ⟨hlt, -⟩ | ⟨heq, -⟩
  · exact he
  all_goals omega

theorem HostPort.took_of_full {h : HostPort} {e : Event} (hfull : h.queue.length = 32) (he : h.enabled (e.klass h.address) = true)
    (hlost : h.lost < 255) (round : Word16) : h.took e round = { h with lost := h.lost + 1 } := by
  rw [HostPort.took, if_pos he, HostPort.enqueue_of_full hfull, satAdd, if_pos hlost]

/-- Two records of one burst count on their own (R159). -/
theorem HostPort.took_took_of_full {h : HostPort} {e f : Event} (hfull : h.queue.length = 32) (he : h.enabled (e.klass h.address) = true)
    (hf : h.enabled (f.klass h.address) = true) (hlost : h.lost ≤ 253) (round : Word16) :
    (h.took e round).took f round = { h with lost := h.lost + 2 } := by
  rw [HostPort.took_of_full hfull he (by omega), HostPort.took_of_full]
  · exact hfull
  · exact hf
  · show h.lost + 1 < 255
    omega

/-- What an own condemnation posts (R38). -/
theorem State.condemnOwn_hp (s : State) : s.condemnOwn.hp =
    (s.hp.took (.condemned s.hp.address (s.accusers s.hp.address)) s.lu.roundNumber).took (.attemptStart (s.ru.attempt + 1))
      s.lu.roundNumber := rfl

/-- Settles O32, by the lost count, which a burst of two meets twice. -/
theorem fullQueueCountsLoss : Obligations.FullQueueCountsLoss := by
  refine fun s hfull _ => ⟨fun e he => ⟨fun hlt => ?_, fun heq => ?_⟩, fun e f he hf hlost => ?_, fun hself hlost => ?_⟩
  · rw [State.post_eq, HostPort.took_of_full hfull he hlt]
  · rw [State.post_of_enabled he, HostPort.enqueue_of_full hfull, satAdd, heq, if_neg (by decide), ← heq]
  · rw [State.post_eq e, State.post_eq f, HostPort.took_took_of_full hfull he hf hlost]
  · have hcondemned : (Event.condemned s.hp.address (s.accusers s.hp.address)).klass s.hp.address = some .self := if_pos rfl
    rw [State.condemnOwn_hp, HostPort.took_took_of_full hfull (by rwa [hcondemned]) (by exact hself) hlost]

/-! ### Posts after losses (R160) -/

/-- With room for two the loss record and the new one join the tail, and with room for one the loss record alone (R160). -/
theorem HostPort.enqueue_of_lost {h : HostPort} (hlost : h.lost ≠ 0) (r : EventRecord) :
    let loss : EventRecord := { round := r.round, event := .lossRecord h.lost }
    (h.queue.length + 2 ≤ 32 → h.enqueue r = { h with queue := h.queue ++ [loss, r], lost := 0, int := true }) ∧
    (h.queue.length + 1 = 32 → h.enqueue r = { h with queue := h.queue ++ [loss], lost := 1, int := true }) := by
  rcases h.enqueue_cases r with ⟨hfull, -⟩ | ⟨-, hzero, -⟩ | ⟨hroom, -, he⟩ | ⟨hroom, -, he⟩
  · exact ⟨fun _ => by omega, fun _ => by omega⟩
  · exact absurd hzero hlost
  · exact ⟨fun _ => he, fun _ => by omega⟩
  · exact ⟨fun _ => by omega, fun _ => he⟩

/-- A delivery leaves the lost count alone and brings no record into the queue (R160, R161). -/
theorem State.deliver_queue (s : State) : s.deliver.hp.lost = s.hp.lost ∧ ∀ r ∈ s.deliver.hp.queue, r ∈ s.hp.queue := by
  unfold State.deliver
  split
  · cases s.hp.advance with
    | none => exact ⟨rfl, fun _ hr => hr⟩
    | some adv =>
      cases adv with
      | event => exact ⟨rfl, fun _ hr => List.mem_of_mem_tail hr⟩
      | entry => exact ⟨s.hp.advanceCursor_lost, fun _ hr => by simpa using hr⟩
  · exact ⟨rfl, fun _ hr => hr⟩

/-- Settles O33, by the room in the queue; a delivery only takes the head record, and the status record shows the count. -/
theorem lossRecordQueued : Obligations.LossRecordQueued := by
  refine ⟨fun s e hone _ => ?_, fun s t h => ?_, fun s hlost => ?_⟩
  · have queued := HostPort.enqueue_of_lost (h := s.hp) (by omega) { round := s.lu.roundNumber, event := e }
    exact ⟨fun he hroom => by rw [State.post_of_enabled he, queued.1 hroom], fun he hroom => by rw [State.post_of_enabled he, queued.2 hroom],
      State.post_of_disabled, rfl, rfl, rfl⟩
  · rw [← Host.Outcome.next.inj h]
    exact s.deliver_queue
  · exact Nat.mod_eq_of_lt (by omega)

/-! ### Delivery (R137, R141, R161, R165) -/

/-- Settles O19, by the phase and the advance that waits. -/
theorem deliveryAdvances : Obligations.DeliveryAdvances := by
  refine fun s => ⟨fun hp => congrArg Host.Outcome.next (if_neg hp), fun hp => ?_⟩
  have hexec : exec .responseDelivered s = .next s.deliver := rfl
  rw [hexec, State.deliver, if_pos hp]
  refine ⟨fun ha => ?_, fun r rest ha hq => ?_, fun ha hc => ⟨s.hp.cursor + 1, ?_, ?_⟩, fun ha hc => ?_⟩
  · rw [ha]
    simp only [← ha]
  · have hint : (!rest.isEmpty) = decide (rest ≠ []) := by cases rest <;> rfl
    rw [ha]
    simp only [HostPort.removeHead, hq, List.tail_cons, hint]
  · exact Fin.val_add_one_of_lt (Fin.lt_def.2 (by omega : s.hp.cursor.val < 15))
  · rw [ha]
    simp only [HostPort.advanceCursor, if_pos (by omega : s.hp.cursor.val < 15)]
  · rw [ha]
    simp only [HostPort.advanceCursor, hc, Nat.lt_irrefl, if_false]

/-! ### The snapshot commands (R164, R165, R166) -/

/-- Settles O30, by the state of the buffer. -/
theorem snapshotCommandsAnswered : Obligations.SnapshotCommandsAnswered := by
  intro s hp hc
  have hsnapshot : exec .snapshot s = .next s.snapshotBody := congrArg Host.Outcome.next (State.takeIn_ifConfigured hp hc _)
  have hread : exec .readEntry s = .next s.readEntryBody := congrArg Host.Outcome.next (State.takeIn_ifConfigured hp hc _)
  have hdiscard : exec .discardSnapshot s = .next s.discardBody := congrArg Host.Outcome.next (State.takeIn_ifConfigured hp hc _)
  rw [hsnapshot, hread, hdiscard, State.snapshotBody, State.readEntryBody]
  refine ⟨fun hfree => ?_, fun c hloaded => ?_, rfl⟩
  · rw [hfree]
    exact ⟨rfl, rfl⟩
  · rw [hloaded]
    exact ⟨rfl, rfl⟩

end Sys2Proof.Machine
end

section
/-! SUPPORT. The counts through every operation: what leaves V and Q alone, the ranges as one predicate, for each operation one lemma that says it
keeps them and the bounds of the event queue, and the statement about every step. -/

namespace Sys2Proof.Machine

/-! ### Operations that leave V and Q alone (R5, R31) -/

/-- V and Q of the round. -/
def State.votes (s : State) : Nat × Nat := (s.vu.voterCount, s.vu.quorum)

theorem State.votes_of_vu {s t : State} (h : t.vu = s.vu) : t.votes = s.votes := by rw [State.votes, h, State.votes]

@[simp] theorem State.post_votes (e : Event) (s : State) : (s.post e).votes = s.votes := rfl

@[simp] theorem State.modifyEntry_votes (a : Addr) (f : Entry → Entry) (s : State) : (s.modifyEntry a f).votes = s.votes := rfl

@[simp] theorem State.endSplits_votes (j : Addr) (s : State) : (s.endSplits j).votes = s.votes := rfl

@[simp] theorem State.moveEntry_votes (a : Addr) (f : Entry → Entry) (s : State) : (s.moveEntry a f).votes = s.votes := by
  rw [State.moveEntry_eq]
  rfl

@[simp] theorem State.countAccusations_votes (k : Addr) (x : AddrSet) (s : State) : (s.countAccusations k x).votes = s.votes := by
  obtain ⟨tally, -, heq⟩ := s.countAccusations_eq k x
  rw [heq]
  rfl

@[simp] theorem State.suspect_votes (j : Addr) (c : SuspectCause) (s : State) : (s.suspect j c).votes = s.votes := by
  unfold State.suspect
  split
  · simp
  · rfl

@[simp] theorem State.testEvidence_votes (j : Addr) (s : State) : (s.testEvidence j).votes = s.votes := by
  unfold State.testEvidence
  split
  · simp
  · rfl

@[simp] theorem State.postChanges_votes (k : Addr) (old : Entry) (f : FrameBody) (s : State) : (s.postChanges k old f).votes = s.votes :=
  State.votes_of_vu (by simp)

@[simp] theorem State.compareView_votes (k : Addr) (f : FrameBody) (b : Bool) (s : State) : (s.compareView k f b).votes = s.votes := by
  unfold State.compareView
  dsimp only
  repeat' split
  all_goals rfl

@[simp] theorem State.takeAccusations_votes (k : Addr) (f : FrameBody) (s : State) : (s.takeAccusations k f).votes = s.votes := by
  have accused (l : List Addr) : (l.foldl (fun t j => if inSet j f.accuses then t.suspect j .accused else t) s).votes = s.votes :=
    foldl_keeps (fun t => t.votes = s.votes) _ (fun t j ht => by split <;> simpa using ht) l s rfl
  unfold State.takeAccusations
  dsimp only
  split
  · rw [State.countAccusations_votes, accused]
  · rw [State.countAccusations_votes]

@[simp] theorem State.adoptFrame_votes (m : FrameKind) (k : Addr) (f : FrameBody) (s : State) : (s.adoptFrame m k f).votes = s.votes := by
  unfold State.adoptFrame
  dsimp only
  split <;> simp

@[simp] theorem State.admitPeer_votes (k : Addr) (f : FrameBody) (s : State) : (s.admitPeer k f).votes = s.votes := by
  simp [State.admitPeer]

@[simp] theorem State.applyAnnounce_votes (k : Addr) (f : FrameBody) (s : State) : (s.applyAnnounce k f).votes = s.votes := by
  have absent : (s.announceFromAbsent k f).votes = s.votes := by
    unfold State.announceFromAbsent
    dsimp only
    repeat' split
    all_goals rfl
  have joining : (s.announceFromJoining k f).votes = s.votes := by
    unfold State.announceFromJoining State.restartedEntry State.heldEntry
    repeat' split
    all_goals simp
  have member : (s.announceFromMember k f).votes = s.votes := by
    unfold State.announceFromMember State.restartedEntry State.heldEntry
    dsimp only
    repeat' split
    all_goals simp
  unfold State.applyAnnounce
  split
  · exact absent
  · exact joining
  all_goals exact member

@[simp] theorem State.applyJoin_votes (k : Addr) (f : FrameBody) (s : State) : (s.applyJoin k f).votes = s.votes := by
  have counted : (s.countJoin k f).votes = s.votes := by
    unfold State.countJoin
    dsimp only
    split <;> simp
  have restarted : (s.restartPeer k f).votes = s.votes := by simp [State.restartPeer]
  unfold State.applyJoin State.beginAdmission
  repeat' split
  all_goals simp [counted, restarted]

@[simp] theorem State.applyLeave_votes (k : Addr) (f : FrameBody) (s : State) : (s.applyLeave k f).votes = s.votes := by
  unfold State.applyLeave
  dsimp only
  split <;> simp

@[simp] theorem State.applyFrame_votes (m : FrameKind) (k : Addr) (f : FrameBody) (s : State) : (s.applyFrame m k f).votes = s.votes := by
  unfold State.applyFrame
  dsimp only
  split
  · simp
  · cases m <;> simp

@[simp] theorem State.applyForeign_votes (k : Addr) (d : Word16) (s : State) : (s.applyForeign k d).votes = s.votes := by
  unfold State.applyForeign
  dsimp only
  repeat' split
  all_goals rfl

@[simp] theorem State.composeOwn_votes (s : State) : s.composeOwn.votes = s.votes := by
  unfold State.composeOwn
  dsimp only
  split
  · rw [State.countAccusations_votes, State.suspect_votes]
    rfl
  · rw [State.countAccusations_votes]
    rfl

@[simp] theorem State.accountMiss_votes (j : Addr) (s : State) : (s.accountMiss j).votes = s.votes := by
  unfold State.accountMiss
  dsimp only
  repeat' split
  all_goals simp

@[simp] theorem State.splitEntry_votes (j : Addr) (s : State) : (s.splitEntry j).votes = s.votes := by simp [State.splitEntry]

@[simp] theorem State.clearEntry_votes (j : Addr) (s : State) : (s.clearEntry j).votes = s.votes := by
  unfold State.clearEntry
  split
  · simp
  · rfl

/-! ### Values that are in range whatever the record (R96, R110, R144) -/

theorem State.roundPeriodMs_le (s : State) : s.roundPeriodMs ≤ 2550 := by
  have := s.cfg.roundPeriod.isLt
  unfold State.roundPeriodMs
  omega

theorem State.pulseMs_le (s : State) : s.pulseMs ≤ 2550 := by
  have := s.cfg.pulseDuration.isLt
  unfold State.pulseMs
  omega

theorem State.recoveryRounds_le (s : State) : s.recoveryRounds ≤ 255 := Nat.le_of_lt_succ s.cfg.recoveryRounds.isLt

theorem State.promptPeriod_le (s : State) : s.promptPeriod ≤ 65535 := Nat.le_of_lt_succ s.cfg.promptPeriod.isLt

theorem State.warningLead_le (s : State) : s.warningLead ≤ 65535 := Nat.le_of_lt_succ s.cfg.warningLead.isLt

theorem setSize_le (x : AddrSet) : setSize x ≤ 16 := List.countP_le_length

/-! ### The ranges of the counts -/

/-- The counts of the Line Unit are in range, the measurement of recessive time up to `limit` (R71, R72, R75, R77, R82, R83, R87). -/
structure LineUnit.InRange (own : Addr) (limit : Nat) (l : LineUnit) : Prop where
  garbledTotal : l.garbledTotal ≤ 65535
  roundTimer : ∀ n, l.roundTimer = some n → n ≤ 2550
  listenWindow : ∀ n, l.listenWindow = some n → n ≤ 5100
  recessiveTime : l.recessiveTime ≤ limit
  position : ∀ n, l.pos = .slots n → n ≤ 16
  outcomes : l.outcomes.length ≤ l.pos.slotsOver own
  counted : l.inStep + l.outOfStep ≤ l.outcomes.length

/-- The record stored passed its values test, and the counts that it bounds are in range. The attempt number is not among them: ResetConsistent
bounds it by the reset limit. -/
structure CountsInRange (limit : Nat) (s : State) : Prop where
  record : ∀ r, s.hp.config = some r → recordInRange r = true
  votes : s.votes.1 ≤ 16 ∧ s.votes.2 ≤ 16
  remaining : s.pt.remaining ≤ 65535
  pulse : s.ru.pulse ≤ 2550
  recovery : s.ru.recovery ≤ 255
  line : s.lu.InRange s.ownAddr limit
  copy : ∀ c, s.hp.snapshot = some c → c.voterCount ≤ 16 ∧ c.quorum ≤ 16

/-- Fifteen slots are those of peers (R71). -/
theorem RoundPos.slotsOver_le {p : RoundPos} (h : ∀ n, p = .slots n → n ≤ 16) (own : Addr) : p.slotsOver own ≤ 15 := by
  unfold RoundPos.slotsOver
  cases p with
  | slots n =>
    have := h n rfl
    dsimp only
    split <;> omega
  | ownSlot => exact Nat.le_of_lt_succ own.isLt
  | outside => exact le_rfl
  | verdict => exact le_rfl
  | rest => exact le_rfl

theorem LineUnit.InRange.outcomes_le {own : Addr} {limit : Nat} {l : LineUnit} (h : l.InRange own limit) : l.outcomes.length ≤ 15 :=
  h.outcomes.trans (RoundPos.slotsOver_le h.position own)

/-- The measurement of recessive time is a free item within its limit. -/
theorem CountsInRange.measured {m n : Nat} {s : State} (h : CountsInRange m s) (hn : s.lu.recessiveTime ≤ n) : CountsInRange n s :=
  ⟨h.record, h.votes, h.remaining, h.pulse, h.recovery, ⟨h.line.garbledTotal, h.line.roundTimer, h.line.listenWindow, hn, h.line.position,
    h.line.outcomes, h.line.counted⟩, h.copy⟩

theorem CountsBounded.inRange {s : State} (h : CountsBounded s) (hl : LineConsistent s) : CountsInRange 2550 s :=
  ⟨hl.record, ⟨h.voterCount, h.quorum⟩, h.remaining, h.pulse, h.recovery, ⟨h.garbledTotal, h.roundTimer, h.listenWindow, h.recessiveTime,
    h.position, h.outcomes, h.counted⟩, h.copy⟩

/-- The attempt number is at most the reset limit of a record in range (R109). -/
theorem PartConsistent.attempt_le {s : State} (h : PartConsistent s) : s.ru.attempt ≤ 7 := by
  by_cases hidle : s.ru.state = .idle
  · rw [h.reset.idle hidle]
    decide
  · have hlimit : s.resetLimit ≤ 7 := (recordInRange_resetLimit (h.line.cfg_inRange (h.membership.resetConfigured hidle))).2
    cases hs : s.ru.state with
    | idle => exact absurd hs hidle
    | pulsing => exact (h.reset.attempt (.inl hs)).2.trans hlimit
    | waiting => exact (h.reset.attempt (.inr hs)).2.trans hlimit
    | held => exact (h.reset.held hs).trans_le hlimit

theorem CountsInRange.bounded {s : State} (h : CountsInRange 2550 s) (hp : PartConsistent s) : CountsBounded s where
  voterCount := h.votes.1
  quorum := h.votes.2
  remaining := h.remaining
  attempt := hp.attempt_le
  pulse := h.pulse
  recovery := h.recovery
  garbledTotal := h.line.garbledTotal
  roundTimer := h.line.roundTimer
  listenWindow := h.line.listenWindow
  recessiveTime := h.line.recessiveTime
  inStep := (Nat.le_add_right _ _).trans (h.line.counted.trans h.line.outcomes_le)
  outOfStep := (Nat.le_add_left _ _).trans (h.line.counted.trans h.line.outcomes_le)
  position := h.line.position
  outcomes := h.line.outcomes
  counted := h.line.counted
  copy := h.copy

/-! ### What an operation keeps -/

/-- The ranges of the counts and the bounds of the event queue are kept from one state to another. -/
structure KeepsBounds (s t : State) : Prop where
  counts : ∀ limit, CountsInRange limit s → CountsInRange limit t
  queue : QueueBounded s → QueueBounded t

theorem KeepsBounds.refl (s : State) : KeepsBounds s s := ⟨fun _ h => h, id⟩

theorem KeepsBounds.trans {r s t : State} (h : KeepsBounds r s) (k : KeepsBounds s t) : KeepsBounds r t :=
  ⟨fun limit hc => k.counts limit (h.counts limit hc), fun hq => k.queue (h.queue hq)⟩

/-- What a guarded operation keeps, where each branch keeps it. -/
theorem KeepsBounds.ite {c : Prop} [Decidable c] {s t u : State} (ht : c → KeepsBounds s t) (hu : ¬ c → KeepsBounds s u) :
    KeepsBounds s (if c then t else u) := by
  by_cases h : c
  · rw [if_pos h]; exact ht h
  · rw [if_neg h]; exact hu h

theorem KeepsBounds.foldl {f : State → Addr → State} (hf : ∀ t a, KeepsBounds t (f t a)) (l : List Addr) (s : State) :
    KeepsBounds s (l.foldl f s) :=
  foldl_keeps (KeepsBounds s) f (fun t a h => h.trans (hf t a)) l s (.refl s)

/-- No record posted takes the queue or the lost count out of its bounds (R158, R159, R160). -/
theorem QueueBounded.posts {s t : State} (h : QueueBounded s) (k : OnlyPosts s t) : QueueBounded t := by
  obtain ⟨rs, hrs⟩ := k
  have enqueued (r : EventRecord) (x : HostPort) (hx : x.queue.length ≤ 32 ∧ x.lost ≤ 255) :
      (x.enqueue r).queue.length ≤ 32 ∧ (x.enqueue r).lost ≤ 255 := by
    obtain ⟨hq, hl⟩ := hx
    rcases x.enqueue_cases r with ⟨-, he⟩ | ⟨hroom, -, he⟩ | ⟨hroom, -, he⟩ | ⟨hroom, -, he⟩ <;> rw [he]
    · exact ⟨hq, satAdd_le 255 _ hl⟩
    · refine ⟨?_, hl⟩
      simp only [List.length_append, List.length_singleton]
      omega
    · refine ⟨?_, Nat.zero_le _⟩
      simp only [List.length_append, List.length_cons, List.length_nil]
      omega
    · refine ⟨?_, (by decide : 1 ≤ 255)⟩
      simp only [List.length_append, List.length_singleton]
      omega
  obtain ⟨hq, hl⟩ := HostPort.enqueueAll_keeps (P := fun x => x.queue.length ≤ 32 ∧ x.lost ≤ 255) enqueued rs ⟨h.queue, h.lost⟩
  exact ⟨by rwa [hrs], by rwa [hrs]⟩

/-- Posts leave the address, the record and the snapshot buffer as they are. -/
theorem OnlyPosts.port {s t : State} (h : OnlyPosts s t) :
    t.hp.address = s.hp.address ∧ t.hp.config = s.hp.config ∧ t.hp.snapshot = s.hp.snapshot := by
  obtain ⟨rs, hrs⟩ := h
  rw [hrs]
  exact HostPort.enqueueAll_keeps
    (P := fun x => x.address = s.hp.address ∧ x.config = s.hp.config ∧ x.snapshot = s.hp.snapshot)
    (fun r x hx => by simpa using hx) rs ⟨rfl, rfl, rfl⟩

/-- An operation that leaves every count alone and only posts. -/
theorem KeepsBounds.of_posts {s t : State} (k : OnlyPosts s t) (hl : t.lu = s.lu) (hv : t.votes = s.votes) (hp : t.pt = s.pt)
    (hr : t.ru = s.ru) : KeepsBounds s t := by
  obtain ⟨ha, hc, hn⟩ := k.port
  refine ⟨fun limit h => ?_, fun h => h.posts k⟩
  refine ⟨by rw [hc]; exact h.record, by rw [hv]; exact h.votes, by rw [hp]; exact h.remaining, by rw [hr]; exact h.pulse,
    by rw [hr]; exact h.recovery, ?_, by rw [hn]; exact h.copy⟩
  rw [hl, State.ownAddr, ha]
  exact h.line

/-- An operation after an edit that leaves every count and the Host Port alone. -/
theorem KeepsBounds.edited {r s t : State} (k : KeepsBounds s t) (hl : s.lu = r.lu) (hv : s.votes = r.votes) (hp : s.pt = r.pt)
    (hr : s.ru = r.ru) (hh : s.hp = r.hp) : KeepsBounds r t :=
  (of_posts (.of_hp hh) hl hv hp hr).trans k

theorem KeepsBounds.post (e : Event) (s : State) : KeepsBounds s (s.post e) := .of_posts (.post e s) rfl rfl rfl rfl

/-- A change of the View Unit that leaves V and Q alone. -/
theorem KeepsBounds.setView {s : State} {v : ViewUnit} (hv : (v.voterCount, v.quorum) = s.votes) : KeepsBounds s { s with vu := v } :=
  .of_posts (.setView s v) rfl hv rfl rfl

theorem KeepsBounds.modifyEntry (a : Addr) (f : Entry → Entry) (s : State) : KeepsBounds s (s.modifyEntry a f) := .setView rfl

theorem KeepsBounds.moveEntry (a : Addr) (f : Entry → Entry) (s : State) : KeepsBounds s (s.moveEntry a f) :=
  .of_posts (.moveEntry a f s) (by simp) (by simp) (by simp) (by simp)

theorem KeepsBounds.testEvidence (j : Addr) (s : State) : KeepsBounds s (s.testEvidence j) :=
  .of_posts (.testEvidence j s) (by simp) (by simp) (by simp) (by simp)

theorem KeepsBounds.setService (s : State) (c : ConditionMonitor) : KeepsBounds s { s with cm := c } := .of_posts (.of_hp rfl) rfl rfl rfl rfl

theorem KeepsBounds.setTimer {s : State} {p : PromptTimer} (h : s.pt.remaining ≤ 65535 → p.remaining ≤ 65535) :
    KeepsBounds s { s with pt := p } :=
  ⟨fun _ k => ⟨k.record, k.votes, h k.remaining, k.pulse, k.recovery, k.line, k.copy⟩, fun k => ⟨k.queue, k.lost⟩⟩

theorem KeepsBounds.setReset {s : State} {r : ResetUnit} (hp : s.ru.pulse ≤ 2550 → r.pulse ≤ 2550)
    (hr : s.ru.recovery ≤ 255 → r.recovery ≤ 255) : KeepsBounds s { s with ru := r } :=
  ⟨fun _ k => ⟨k.record, k.votes, k.remaining, hp k.pulse, hr k.recovery, k.line, k.copy⟩, fun k => ⟨k.queue, k.lost⟩⟩

/-- A change of the Reset Unit's flags, its state and its attempt number. -/
theorem KeepsBounds.setFlags {s : State} {r : ResetUnit} (hp : r.pulse = s.ru.pulse) (hr : r.recovery = s.ru.recovery) :
    KeepsBounds s { s with ru := r } :=
  .setReset (by rw [hp]; exact id) (by rw [hr]; exact id)

theorem KeepsBounds.setLine {s : State} {l : LineUnit} (h : ∀ limit, s.lu.InRange s.ownAddr limit → l.InRange s.ownAddr limit) :
    KeepsBounds s { s with lu := l } :=
  ⟨fun limit k => ⟨k.record, k.votes, k.remaining, k.pulse, k.recovery, h limit k.line, k.copy⟩, fun k => ⟨k.queue, k.lost⟩⟩

/-- A change of the Host Port that stores no record and no copy and lengthens no queue. -/
theorem KeepsBounds.setPort {s : State} {h : HostPort} (ha : h.address = s.hp.address) (hc : h.config = s.hp.config)
    (hs : ∀ c, h.snapshot = some c → s.hp.snapshot = some c) (hq : h.queue.length ≤ s.hp.queue.length) (hl : h.lost = s.hp.lost) :
    KeepsBounds s { s with hp := h } := by
  refine ⟨fun limit k => ⟨by rw [hc]; exact k.record, k.votes, k.remaining, k.pulse, k.recovery, ?_, fun c hcopy => k.copy c (hs c hcopy)⟩,
    fun k => ⟨hq.trans k.queue, hl.trans_le k.lost⟩⟩
  rw [State.ownAddr, ha]
  exact k.line

/-! ### Slots and frames (R71, R75, R80 to R83) -/

/-- A slot closes: one more is over, with one outcome and at most one frame counted (R81, R82, R83). -/
theorem LineUnit.InRange.closed {own k : Addr} {limit n : Nat} {l : LineUnit} (h : l.InRange own limit) (hp : l.pos = .slots n)
    (hn : n ≤ k.val) (hown : own.val < n ∨ k.val < own.val) {i o g : Nat} (hcount : i + o ≤ l.inStep + l.outOfStep + 1) (hg : g ≤ 65535)
    (outcome : SlotOutcome) (number : Word16) (fresh : Bool) :
    LineUnit.InRange own limit { l.closed k outcome with
      inStep := i, outOfStep := o, garbledTotal := g, roundNumber := number, adoptOpen := fresh } := by
  have hout := h.outcomes
  have hcounted := h.counted
  simp only [hp, RoundPos.slotsOver] at hout
  refine ⟨hg, h.roundTimer, h.listenWindow, h.recessiveTime, ?_, ?_, ?_⟩
  · rintro m ⟨⟩
    exact k.isLt
  · simp only [LineUnit.closed, RoundPos.slotsOver, List.length_append, List.length_singleton]
    split at hout <;> split <;> omega
  · simp only [LineUnit.closed, List.length_append, List.length_singleton]
    omega

theorem KeepsBounds.applyForeign (k : Addr) (d : Word16) (s : State) : KeepsBounds s (s.applyForeign k d) :=
  .of_posts (.applyForeign k d s) (by simp) (by simp) (by simp) (by simp)

theorem KeepsBounds.applyFrame (kind : FrameKind) (k : Addr) (f : FrameBody) (s : State) : KeepsBounds s (s.applyFrame kind k f) :=
  .of_posts (.applyFrame kind k f s) (by simp) (by simp) (by simp) (by simp)

theorem KeepsBounds.closeSlot (k : Addr) (r : Reception) (s : State) : KeepsBounds s (s.closeSlot k r) := by
  by_cases hready : s.slotReady k = true
  case neg => rw [State.closeSlot, if_neg hready]; exact .refl s
  have hopen := (s.slotReady_iff k).1 hready
  obtain ⟨n, hp, hn, hown⟩ := hopen.position
  rw [State.closeSlot_eq hopen]
  have heard (outcome : SlotOutcome) (i o : Nat) (hcount : i + o ≤ s.lu.inStep + s.lu.outOfStep + 1) (number : Word16) (fresh : Bool) :
      KeepsBounds s { s with lu := { s.lu.closed k outcome with
        inStep := i, outOfStep := o, roundNumber := number, adoptOpen := fresh } } :=
    .setLine fun _ h => h.closed hp hn hown hcount h.garbledTotal outcome number fresh
  cases r with
  | silent => exact heard .silent _ _ (Nat.le_succ _) _ _
  | garbled =>
    exact .setLine fun _ h => h.closed hp hn hown (Nat.le_succ _) (satAdd_le 65535 _ h.garbledTotal) .garbled s.lu.roundNumber s.lu.adoptOpen
  | frame kind f =>
    have hadopt : ∃ number fresh, ({ s.lu with pos := .slots (k.val + 1), driving := .nothing } : LineUnit).adoptRound f.round =
        { s.lu with pos := .slots (k.val + 1), driving := .nothing, roundNumber := number, adoptOpen := fresh } := by
      unfold LineUnit.adoptRound
      split
      · exact ⟨_, _, rfl⟩
      · exact ⟨_, _, rfl⟩
    obtain ⟨number, fresh, hadopt⟩ := hadopt
    unfold State.takeFrame
    refine .ite (fun _ => (heard .foreign _ _ (Nat.le_succ _) _ _).trans (.applyForeign k f.digest _)) (fun _ => ?_)
    dsimp only
    rw [hadopt]
    refine .ite (fun _ => ?_) (fun _ => ?_)
    · exact (heard (.outOfStep f.round) s.lu.inStep (s.lu.outOfStep + 1) (by omega) number fresh).trans (.modifyEntry k _ _)
    · exact (heard (.frame f.round) (s.lu.inStep + 1) s.lu.outOfStep (by omega) number fresh).trans (.applyFrame kind k f _)

/-! ### The own slot and the verdict field (R80, R91) -/

theorem KeepsBounds.startOwnSlot (s : State) : KeepsBounds s s.startOwnSlot := by
  refine .ite (fun hready => ?_) (fun _ => .refl s)
  have composed : KeepsBounds s s.composeOwn := .of_posts (.composeOwn s) (by simp) (by simp) (by simp) (by simp)
  refine composed.trans (.setLine fun _ h => ?_)
  obtain ⟨n, -, hp, hn⟩ := s.ownSlotReady_iff.1 hready
  have hout := h.outcomes
  simp only [State.composeOwn_lu, hp, RoundPos.slotsOver, State.ownAddr, State.composeOwn_address] at hout
  refine ⟨h.garbledTotal, h.roundTimer, h.listenWindow, h.recessiveTime, nofun, ?_, h.counted⟩
  simp only [State.composeOwn_lu, RoundPos.slotsOver, State.ownAddr, State.composeOwn_address]
  split at hout <;> omega

theorem KeepsBounds.reportWhole (s : State) : KeepsBounds s s.reportWhole := by
  have whole : KeepsBounds s { s with lu := { s.lu with ownWhole := true } } :=
    .setLine fun _ h => ⟨h.garbledTotal, h.roundTimer, h.listenWindow, h.recessiveTime, h.position, h.outcomes, h.counted⟩
  unfold State.reportWhole
  cases s.lu.ownFrame with
  | none => exact .refl s
  | some fr =>
    have heard := whole.trans (.modifyEntry s.ownAddr (fun e => { e with lastHeard := some fr.body.round }) _)
    exact .ite (fun _ => heard.trans (.setView rfl)) (fun _ => heard)

theorem KeepsBounds.endOwnSlot (clean : Bool) (s : State) : KeepsBounds s (s.endOwnSlot clean) := by
  refine .ite (fun ⟨_, hp⟩ => ?_) (fun _ => .refl s)
  have ended (c : Bool) : KeepsBounds s { s with lu := { s.lu with
      pos := .slots (s.ownAddr.val + 1), driving := .nothing, collisionPending := c } } := by
    refine .setLine fun _ h => ⟨h.garbledTotal, h.roundTimer, h.listenWindow, h.recessiveTime, ?_, ?_, h.counted⟩
    · rintro m ⟨⟩
      exact s.ownAddr.isLt
    · have hout := h.outcomes
      rw [hp] at hout
      exact hout.trans_eq (if_pos (Nat.lt_succ_self _)).symm
  exact .ite (fun _ => .ite (fun _ => (ended s.lu.collisionPending).trans (.reportWhole _)) (fun _ => ended true))
    (fun _ => ended s.lu.collisionPending)

theorem KeepsBounds.startField (s : State) : KeepsBounds s s.startField :=
  .ite (fun _ => .setLine fun _ h =>
    ⟨h.garbledTotal, h.roundTimer, h.listenWindow, h.recessiveTime, nofun, h.outcomes_le, h.counted⟩) (fun _ => .refl s)

/-! ### The Prompt Timer and the Reset Unit (R95, R107) -/

theorem KeepsBounds.armTimer (s : State) : KeepsBounds s s.armTimer := .setTimer fun _ => s.promptPeriod_le

theorem KeepsBounds.disarmTimer (s : State) : KeepsBounds s s.disarmTimer := .setTimer fun _ => Nat.zero_le _

theorem KeepsBounds.warnTimer (s : State) : KeepsBounds s s.warnTimer :=
  .ite (fun _ => KeepsBounds.trans (.setTimer fun _ => s.warningLead_le) (.post _ _)) (fun _ => .refl s)

theorem KeepsBounds.lapseTimer (s : State) : KeepsBounds s s.lapseTimer :=
  .ite (fun _ => KeepsBounds.trans (.setTimer fun _ => Nat.zero_le _) (.post _ _)) (fun _ => .refl s)

theorem KeepsBounds.startAttempt (s : State) : KeepsBounds s s.startAttempt :=
  .trans (.setReset (fun _ => s.pulseMs_le) (fun _ => Nat.zero_le _)) (.post _ _)

theorem KeepsBounds.endPulse (s : State) : KeepsBounds s s.endPulse :=
  .ite (fun _ => KeepsBounds.trans (.setReset (fun _ => Nat.zero_le _) (fun _ => s.recoveryRounds_le)) (.post _ _)) (fun _ => .refl s)

theorem KeepsBounds.hold (s : State) : KeepsBounds s s.hold := by
  have held : KeepsBounds s { s with ru := { s.ru with state := .held, recovery := 0, rstout := true } } := .setReset id (fun _ => Nat.zero_le _)
  exact (held.trans (.post (.hostHeld s.ru.attempt) _)).trans (.moveEntry _ _ _)

theorem KeepsBounds.endWindow (s : State) : KeepsBounds s s.endWindow := .ite (fun _ => .startAttempt s) (fun _ => .hold s)

theorem KeepsBounds.countRecoveryRound (s : State) : KeepsBounds s s.countRecoveryRound :=
  .ite (fun _ => .ite (fun _ => .endWindow s) (fun _ => .setReset id (Nat.sub_le _ _).trans)) (fun _ => .refl s)

theorem KeepsBounds.rejoin (s : State) : KeepsBounds s s.rejoin := by
  refine .ite (fun _ => ?_) (fun _ => .refl s)
  have idle : KeepsBounds s { s with ru := { s.ru with state := .idle, recovery := 0, confirmed := false, rstout := false } } :=
    .setReset id (fun _ => Nat.zero_le _)
  exact (idle.trans (.post (.attemptEnd .rejoined s.ru.attempt) _)).trans (.setFlags rfl rfl)

theorem KeepsBounds.releaseHost (s : State) : KeepsBounds s s.releaseHost := by
  refine KeepsBounds.trans ?_ (.post _ _)
  exact .setFlags rfl rfl

theorem KeepsBounds.releaseIfRequested (s : State) : KeepsBounds s s.releaseIfRequested := .ite (fun _ => .releaseHost s) (fun _ => .refl s)

theorem KeepsBounds.postLeaving (e : Event) (s : State) : KeepsBounds s (s.postLeaving e) :=
  .ite (fun _ => (KeepsBounds.releaseIfRequested s).trans (.post e _)) (fun _ => (KeepsBounds.post e s).trans (.releaseIfRequested _))

theorem KeepsBounds.depart (s : State) : KeepsBounds s s.depart := by
  have cleared : KeepsBounds s { s.disarmTimer with vu := { s.vu with hostAccused := 0 }, cm := { s.cm with service := 0 } } :=
    (KeepsBounds.disarmTimer s).trans (.of_posts (.of_hp rfl) rfl rfl rfl rfl)
  exact ((cleared.trans (.ite (fun _ => .post _ _) (fun _ => .refl _))).trans (.moveEntry _ _ _)).trans (.setView rfl)

/-! ### The round end (R36) -/

theorem KeepsBounds.accountMiss (j : Addr) (s : State) : KeepsBounds s (s.accountMiss j) :=
  .of_posts (.accountMiss j s) (by simp) (by simp) (by simp) (by simp)

theorem KeepsBounds.condemnOwn (s : State) : KeepsBounds s s.condemnOwn := by
  have posted := (KeepsBounds.modifyEntry s.ownAddr (fun e => { e.moveTo .recovering with splits := 0 }) s).trans
    (.post (.condemned s.ownAddr (s.accusers s.ownAddr)) _)
  exact (posted.trans (.disarmTimer _)).trans (.edited (.startAttempt _) rfl rfl rfl rfl rfl)

theorem KeepsBounds.applyVerdict (c k : AddrSet) (j : Addr) (s : State) : KeepsBounds s (s.applyVerdict c k j) := by
  have cleared : KeepsBounds s ((s.endSplits j).clearEntry j) :=
    (KeepsBounds.modifyEntry j _ s).trans (.of_posts (.clearEntry j _) (by simp) (by simp) (by simp) (by simp))
  unfold State.applyVerdict
  cases verdictOf c k j with
  | none => exact cleared
  | clear => exact cleared
  | split => exact .ite (fun _ => .of_posts (.splitEntry j s) (by simp) (by simp) (by simp) (by simp)) (fun _ => .refl s)
  | condemn =>
    exact .ite (fun _ => .ite (fun _ => .condemnOwn s) (fun _ => (KeepsBounds.moveEntry j _ s).trans (.post _ _)))
      (fun _ => .modifyEntry j _ s)

theorem KeepsBounds.completeAdmission (s : State) : KeepsBounds s s.completeAdmission := by
  have tested (x : State) : KeepsBounds x (allAddrs.foldl (fun t j => t.testEvidence j) x) := .foldl (fun t j => .testEvidence j t) _ x
  have armed := (KeepsBounds.modifyEntry s.ownAddr (Entry.moveTo .member) s).trans (.armTimer _)
  exact (armed.trans (.post (.joinDone (s.modifyEntry s.ownAddr (Entry.moveTo .member)).armTimer.ownIncarnation) _)).trans (tested _)

theorem KeepsBounds.admissionStep (s : State) : KeepsBounds s s.admissionStep :=
  .ite (fun _ => .ite (fun _ => (KeepsBounds.moveEntry _ _ s).trans (.post _ _))
    (fun _ => .ite (fun _ => .ite (fun _ => .completeAdmission s) (fun _ => .modifyEntry _ _ s)) (fun _ => .refl s))) (fun _ => .refl s)

theorem KeepsBounds.roundEndWork (resynced : Bool) (s : State) : KeepsBounds s (s.roundEndWork resynced) := by
  have missed : KeepsBounds s (if resynced then s else allAddrs.foldl (fun t j => t.accountMiss j) s) :=
    .ite (fun _ => .refl s) (fun _ => .foldl (fun t j => .accountMiss j t) allAddrs s)
  exact (missed.trans (.foldl (fun t j => .applyVerdict _ _ j t) allAddrs _)).trans (.admissionStep _)

theorem KeepsBounds.resync (s : State) : KeepsBounds s s.resync := by
  unfold State.resync
  cases s.lu.resyncNumber with
  | none => exact .refl s
  | some x =>
    have numbered : KeepsBounds s { s with lu := { s.lu with roundNumber := x } } :=
      .setLine fun _ h => ⟨h.garbledTotal, h.roundTimer, h.listenWindow, h.recessiveTime, h.position, h.outcomes, h.counted⟩
    exact numbered.trans (.post (.roundResync s.lu.roundNumber x) _)

theorem KeepsBounds.endRound (condemn clear : AddrSet) (s : State) : KeepsBounds s (s.endRound condemn clear) := by
  have sampled : KeepsBounds s (State.sampleField condemn clear { s with lu := { s.lu with pos := .rest, driving := .nothing } }) :=
    .setLine fun _ h => ⟨h.garbledTotal, h.roundTimer, h.listenWindow, h.recessiveTime, nofun, h.outcomes_le, h.counted⟩
  have checked (x : State) : KeepsBounds x
      (if x.releaseDue && Config.releaseBeforeResync then x.releaseIfRequested.resync else x.resync) :=
    .ite (fun _ => (KeepsBounds.releaseIfRequested x).trans (.resync _)) (fun _ => .resync x)
  have worked (b : Bool) (x : State) : KeepsBounds x
      (if x.releaseDue && Config.releaseBeforeRoundEndWork then x.releaseIfRequested.roundEndWork b
        else (x.roundEndWork b).releaseIfRequested) :=
    .ite (fun _ => (KeepsBounds.releaseIfRequested x).trans (.roundEndWork b _))
      (fun _ => (KeepsBounds.roundEndWork b x).trans (.releaseIfRequested _))
  exact .ite (fun _ => (sampled.trans (checked _)).trans (worked _ _)) (fun _ => .refl s)

/-! ### Entering and leaving the rounds (R75 to R78, R84 to R87) -/

/-- A dominant reading leaves no more recessive time than before (R87). -/
theorem KeepsBounds.restartMeasurement (s : State) : KeepsBounds s s.restartMeasurement :=
  .ite (fun _ => .setLine fun _ h =>
    ⟨h.garbledTotal, h.roundTimer, h.listenWindow, Nat.zero_le _, h.position, h.outcomes, h.counted⟩) (fun _ => .refl s)

/-- The round is abandoned, the timers stopped; the measurement of recessive time may begin anew. -/
theorem KeepsBounds.leaveRounds (st : LineState) (s : State) : KeepsBounds s (s.leaveRounds st) := by
  have left : KeepsBounds s { s with lu := { s.lu with
      state := st, att := false, driving := .nothing, roundTimer := none, listenWindow := none, adoptOpen := false,
      pos := .outside, collisionPending := false } } :=
    .setLine fun _ h => ⟨h.garbledTotal, nofun, nofun, h.recessiveTime, nofun, h.outcomes_le, h.counted⟩
  exact left.trans (.setView rfl)

theorem KeepsBounds.stickLine (s : State) : KeepsBounds s s.stickLine := by
  refine .ite (fun _ => ?_) (fun _ => .restartMeasurement s)
  have waiting : KeepsBounds (s.leaveRounds .listening)
      { s.leaveRounds .listening with lu := { (s.leaveRounds .listening).lu with waitRelease := true, recessiveTime := 0 } } :=
    .setLine fun _ h => ⟨h.garbledTotal, h.roundTimer, h.listenWindow, Nat.zero_le _, h.position, h.outcomes, h.counted⟩
  exact ((KeepsBounds.leaveRounds .listening s).trans waiting).trans (.postLeaving _ _)

theorem KeepsBounds.takeCollision (s : State) : KeepsBounds s s.takeCollision := by
  have withdrawn : KeepsBounds s s.withdrawBlocked :=
    (((KeepsBounds.moveEntry _ _ s).trans (.ite (fun _ => .post _ _) (fun _ => .refl _))).trans (.disarmTimer _)).trans (.setView rfl)
  exact .ite (fun _ => (withdrawn.trans (.leaveRounds .blocked _)).trans (.postLeaving _ _)) (fun _ => .refl s)

theorem KeepsBounds.releaseLine (s : State) : KeepsBounds s s.releaseLine := by
  refine .ite (fun _ => (KeepsBounds.post .lineReleased s).trans (.setLine fun _ h => ?_)) (fun _ => .refl s)
  refine ⟨h.garbledTotal, h.roundTimer, ?_, Nat.zero_le _, h.position, h.outcomes, h.counted⟩
  rintro n ⟨⟩
  have := (s.post .lineReleased).roundPeriodMs_le
  omega

theorem recordInRange_quorumFloor {r : ConfigRecord} (h : recordInRange r = true) : r.quorumFloor.toNat ≤ 16 := by
  simp only [recordInRange, Bool.and_eq_true, decide_eq_true_eq] at h; omega

/-- The quorum floor is that of a record in range, or of none (R144). -/
theorem CountsInRange.quorumFloor {limit : Nat} {s : State} (h : CountsInRange limit s) : s.quorumFloor ≤ 16 := by
  unfold State.quorumFloor State.cfg
  cases hc : s.hp.config with
  | none => exact Nat.zero_le _
  | some r => exact recordInRange_quorumFloor (h.record r hc)

/-- A round begins with its voters, its counts at 0 and its timer at a round period (R5, R31, R75). -/
theorem KeepsBounds.startRound (d : Driving) (fresh : Bool) (s : State) : KeepsBounds s (s.startRound d fresh).formVoters := by
  refine ⟨fun limit h => ⟨h.record, ⟨setSize_le _, ?_⟩, h.remaining, h.pulse, h.recovery, ?_, h.copy⟩, fun h => ⟨h.queue, h.lost⟩⟩
  · have hvoters := setSize_le (setWhere fun a => ((s.startRound d fresh).entry a).state.isMember)
    exact max_le h.quorumFloor (by omega)
  · refine ⟨h.line.garbledTotal, ?_, nofun, h.line.recessiveTime, ?_, Nat.zero_le _, Nat.zero_le _⟩
    · rintro n ⟨⟩
      exact s.roundPeriodMs_le
    · rintro n ⟨⟩
      exact Nat.zero_le _

theorem KeepsBounds.beginRound (d : Driving) (s : State) : KeepsBounds s (s.beginRound d) :=
  (KeepsBounds.startRound d false s).trans (.countRecoveryRound _)

theorem KeepsBounds.enterSynced (d : Driving) (w : WayOfEntry) (s : State) : KeepsBounds s (s.enterSynced d w) :=
  (KeepsBounds.startRound d true s).trans
    (.ite (fun _ => (KeepsBounds.countRecoveryRound _).trans (.post _ _)) (fun _ => (KeepsBounds.post _ _).trans (.countRecoveryRound _)))

theorem KeepsBounds.takeMark (s : State) : KeepsBounds s s.takeMark :=
  .ite (fun _ => .ite (fun _ => .beginRound _ s) (fun _ => .refl s))
    (fun _ => .ite (fun _ => .enterSynced _ _ s) (fun _ => .restartMeasurement s))

theorem KeepsBounds.expireRoundTimer (s : State) : KeepsBounds s s.expireRoundTimer := .ite (fun _ => .beginRound _ s) (fun _ => .refl s)

theorem KeepsBounds.expireListenWindow (s : State) : KeepsBounds s s.expireListenWindow :=
  .ite (fun _ => .enterSynced _ _ s) (fun _ => .refl s)

/-! ### The host port -/

theorem KeepsBounds.answerWith (st : Status) (data : List Byte) (adv : Option Advance) (s : State) :
    KeepsBounds s (s.answerWith st data adv) :=
  .setPort rfl rfl (fun _ h => h) le_rfl rfl

theorem KeepsBounds.answer (st : Status) (data : List Byte) (s : State) : KeepsBounds s (s.answer st data) := .answerWith st data none s

theorem KeepsBounds.takeIn {f : State → State} {s : State} (h : KeepsBounds s (f s)) : KeepsBounds s (s.takeIn f) :=
  .ite (fun _ => h) (fun _ => .refl s)

theorem KeepsBounds.ifConfigured {f : State → State} {s : State} (h : KeepsBounds s (f s)) : KeepsBounds s (s.ifConfigured f) :=
  .ite (fun _ => h) (fun _ => .answer _ _ s)

/-- A part whose blocks have their power-on values has every count at 0 (R94, R95, R107, R154). -/
theorem KeepsBounds.of_fresh {s t : State} {i : Byte} {b : Bool} (hl : t.lu = LineUnit.reset) (hv : t.vu = ViewUnit.reset t.hp.address i)
    (hp : t.pt = PromptTimer.reset) (hr : t.ru = ResetUnit.reset b) (hc : t.hp.config = none) (hn : t.hp.snapshot = none)
    (hq : t.hp.queue = []) (hz : t.hp.lost = 0) : KeepsBounds s t := by
  refine ⟨fun limit _ => ⟨by simp [hc], ?_, ?_, ?_, ?_, ?_, by simp [hn]⟩, fun _ => ⟨by simp [hq], by simp [hz]⟩⟩
  · rw [State.votes, hv]
    exact ⟨Nat.zero_le _, Nat.zero_le _⟩
  · rw [hp]
    exact Nat.zero_le _
  · rw [hr]
    exact Nat.zero_le _
  · rw [hr]
    exact Nat.zero_le _
  · rw [hl]
    exact ⟨Nat.zero_le _, nofun, nofun, Nat.zero_le _, nofun, Nat.zero_le _, Nat.zero_le _⟩

theorem KeepsBounds.restartBody (s : State) : KeepsBounds s s.restartBody :=
  .ite (fun _ => KeepsBounds.trans (.of_fresh rfl rfl rfl rfl rfl rfl rfl rfl) (.answer _ _ s.restarted)) (fun _ => .answer _ _ s)

/-- The record accepted is in range, and the listen window is two of its round periods (R145, R146). -/
theorem KeepsBounds.configureBody (r : ConfigRecord) (s : State) : KeepsBounds s (s.configureBody r) := by
  refine .ite (fun _ => .answer _ _ s) (fun _ => .ite (fun _ => .answer _ _ s) (fun hrange => KeepsBounds.trans ?_ (.answer _ _ _)))
  have hin : recordInRange r = true := by simpa using hrange
  refine ⟨fun limit h => ⟨?_, h.votes, h.remaining, h.pulse, h.recovery, ?_, h.copy⟩, fun h => ⟨h.queue, h.lost⟩⟩
  · rintro r' ⟨⟩
    exact hin
  · refine ⟨h.line.garbledTotal, h.line.roundTimer, ?_, h.line.recessiveTime, h.line.position, h.line.outcomes, h.line.counted⟩
    rintro n ⟨⟩
    have := r.roundPeriod.isLt
    omega

theorem KeepsBounds.joinBody (s : State) : KeepsBounds s s.joinBody := by
  refine .ite (fun _ => KeepsBounds.trans ?_ (.answer _ _ _)) (fun _ => .answer _ _ s)
  exact .edited (.rejoin _) rfl rfl rfl rfl rfl

theorem KeepsBounds.leaveBody (s : State) : KeepsBounds s s.leaveBody := by
  unfold State.leaveBody
  cases s.own.state with
  | absent => exact .answer _ _ s
  | recovering => exact .answer _ _ s
  | _ => exact (KeepsBounds.depart s).trans (.answer _ _ _)

theorem KeepsBounds.accuseBody (a : Byte) (s : State) : KeepsBounds s (s.accuseBody a) := by
  unfold State.accuseBody
  cases addrOfByte a with
  | none => exact .answer _ _ s
  | some j =>
    have accused : KeepsBounds s { s with vu := { s.vu with hostAccused := insertAddr j s.vu.hostAccused } } := .setView rfl
    exact .ite (fun _ => .answer _ _ s) (fun _ => .ite
      (fun _ => KeepsBounds.trans (.ite (fun _ => accused) (fun _ => accused.trans (.testEvidence j _))) (.answer _ _ _))
      (fun _ => .answer _ _ s))

theorem KeepsBounds.pardonBody (a : Byte) (s : State) : KeepsBounds s (s.pardonBody a) := by
  unfold State.pardonBody
  cases addrOfByte a with
  | none => exact .answer _ _ s
  | some j => exact KeepsBounds.trans (s := s.dropAccusation j) (.setView rfl) (.answer _ _ _)

theorem KeepsBounds.promptBody (n : Byte) (s : State) : KeepsBounds s (s.promptBody n) := by
  unfold State.promptBody
  cases s.pt.state with
  | disarmed => exact .answer _ _ s
  | lapsed => exact .answer _ _ s
  | _ => exact .ite (fun _ => KeepsBounds.trans (.setTimer fun _ => s.promptPeriod_le) (.answer _ _ _)) (fun _ => .answer _ _ s)

theorem KeepsBounds.readEventBody (s : State) : KeepsBounds s s.readEventBody := by
  unfold State.readEventBody
  cases s.hp.queue with
  | nil => exact .answer _ _ s
  | cons r rest => exact .answerWith _ _ _ s

theorem KeepsBounds.readEntryBody (s : State) : KeepsBounds s s.readEntryBody := by
  unfold State.readEntryBody
  cases s.hp.snapshot with
  | none => exact .answer _ _ s
  | some c => exact .answerWith _ _ _ s

/-- The copy takes V and Q as they are (R164). -/
theorem KeepsBounds.snapshotBody (s : State) : KeepsBounds s s.snapshotBody := by
  unfold State.snapshotBody
  cases s.hp.snapshot with
  | some c => exact .answer _ _ s
  | none =>
    refine KeepsBounds.trans ?_ (.answer _ _ _)
    refine ⟨fun limit h => ⟨h.record, h.votes, h.remaining, h.pulse, h.recovery, h.line, ?_⟩, fun h => ⟨h.queue, h.lost⟩⟩
    rintro c ⟨⟩
    exact h.votes

theorem KeepsBounds.discardBody (s : State) : KeepsBounds s s.discardBody :=
  .trans (.setPort (h := { s.hp with snapshot := none, cursor := 0 }) rfl rfl nofun le_rfl rfl) (.answer _ _ _)

theorem KeepsBounds.runHostCommand (c : HostCommand) (s : State) : KeepsBounds s (s.runHostCommand c) := by
  cases c with
  | status => exact .answer _ _ s
  | configure r => exact .configureBody r s
  | restart => exact .restartBody s
  | join => exact .ifConfigured (.joinBody s)
  | leave => exact .ifConfigured (.leaveBody s)
  | accuse a => exact .ifConfigured (.accuseBody a s)
  | pardon a => exact .ifConfigured (.pardonBody a s)
  | prompt n => exact .ifConfigured (.promptBody n s)
  | publish w => exact .ifConfigured ((KeepsBounds.setService s _).trans (.answer _ _ _))
  | snapshot => exact .ifConfigured (.snapshotBody s)
  | readEntry => exact .ifConfigured (.readEntryBody s)
  | discardSnapshot => exact .ifConfigured (.discardBody s)
  | readEvent => exact .ifConfigured (.readEventBody s)

theorem KeepsBounds.takeFrameBits (sdi : List Bool) (s : State) : KeepsBounds s (s.takeFrameBits sdi) := by
  unfold State.takeFrameBits State.takeFrameBytes
  cases checkFrame (bytesOfBits sdi) with
  | incomplete => exact .refl s
  | badCheck => exact .answer _ _ s
  | badCommand => exact .answer _ _ s
  | good c => exact .runHostCommand c s

/-- A delivery takes at most the head record and the copy away (R161, R165). -/
theorem KeepsBounds.deliver (s : State) : KeepsBounds s s.deliver := by
  refine .ite (fun _ => ?_) (fun _ => .refl s)
  cases s.hp.advance with
  | none => exact .setPort rfl rfl (fun _ h => h) le_rfl rfl
  | some adv =>
    cases adv with
    | event => exact .setPort rfl rfl (fun _ h => h) (by simp [HostPort.removeHead]) rfl
    | entry => exact .setPort (by simp) (by simp) (fun _ h => HostPort.advanceCursor_snapshot_some h) (by simp) (by simp)

/-! ### Time (R72, R77, R87, R98, R111) -/

theorem KeepsBounds.runLocal (s : State) : KeepsBounds s s.runLocal := by
  have prompted : KeepsBounds s s.runPrompt := .ite (fun _ => .warnTimer s) (fun _ => .ite (fun _ => .lapseTimer s) (fun _ => .refl s))
  rw [State.runLocal_eq]
  exact .ite (fun _ => prompted.trans (.endPulse _)) (fun _ => prompted)

theorem KeepsBounds.runLine (s : State) : KeepsBounds s s.runLine :=
  .ite (fun _ => .expireRoundTimer s)
    (fun _ => .ite (fun _ => .expireListenWindow s) (fun _ => .ite (fun _ => .releaseLine s) (fun _ => .refl s)))

/-- A timer that counts down stays in its range. -/
theorem countdown_le {o : Option Nat} {limit : Nat} (h : ∀ n, o = some n → n ≤ limit) : ∀ n, o.map (· - 1) = some n → n ≤ limit := by
  intro n hn
  obtain ⟨m, hm, rfl⟩ := Option.map_eq_some_iff.1 hn
  exact (Nat.sub_le m 1).trans (h m hm)

/-- In one millisecond the measurement of recessive time rises by 1 at most, and only while the station waits for release (R87). -/
theorem State.count_recessiveTime (s : State) : s.count.lu.recessiveTime ≤ s.lu.recessiveTime + 1 ∧
    (s.count.waitingRelease = false → s.count.lu.recessiveTime = s.lu.recessiveTime) := by
  have htime : s.count.lu.recessiveTime =
      if s.lu.state = .listening ∧ s.lu.waitRelease = true then s.lu.recessiveTime + 1 else s.lu.recessiveTime := rfl
  refine ⟨?_, fun hw => ?_⟩
  · rw [htime]
    split <;> omega
  · exact htime.trans (if_neg fun hwait => Bool.eq_false_iff.1 hw (s.waitingRelease_iff.2 hwait))

theorem CountsInRange.count {limit : Nat} {s : State} (h : CountsInRange limit s) : CountsInRange (limit + 1) s.count := by
  have htime := s.count_recessiveTime.1
  have hl := h.line
  have hrecessive : s.count.lu.recessiveTime ≤ limit + 1 := htime.trans (Nat.succ_le_succ hl.recessiveTime)
  rw [s.count_eq] at hrecessive ⊢
  refine ⟨h.record, h.votes, ?_, ?_, h.recovery, ⟨hl.garbledTotal, countdown_le hl.roundTimer, countdown_le hl.listenWindow, hrecessive,
    hl.position, hl.outcomes, hl.counted⟩, h.copy⟩
  · have := h.remaining
    dsimp only
    split <;> omega
  · have := h.pulse
    dsimp only
    split <;> omega

/-- A measurement that has run past the round period is taken as the release (R87). -/
theorem CountsInRange.runLine {u : State} (h : CountsInRange 2551 u) (hquiet : u.waitingRelease = false → u.lu.recessiveTime ≤ 2550) :
    CountsInRange 2550 u.runLine := by
  by_cases hdue : u.waitingRelease = true ∧ u.roundPeriodMs ≤ u.lu.recessiveTime
  · rw [State.runLine_release hdue]
    refine ((KeepsBounds.releaseLine u).counts _ h).measured ?_
    rw [State.releaseLine, if_pos hdue.1]
    exact Nat.zero_le _
  · have htime : u.lu.recessiveTime ≤ 2550 := by
      cases hw : u.waitingRelease with
      | false => exact hquiet hw
      | true =>
        have := u.roundPeriodMs_le
        have : ¬ u.roundPeriodMs ≤ u.lu.recessiveTime := fun hle => hdue ⟨hw, hle⟩
        omega
    exact (KeepsBounds.runLine u).counts _ (h.measured htime)

theorem CountsInRange.idle {s : State} (h : CountsInRange 2550 s) : CountsInRange 2550 s.idle := by
  have hquiet (hw : s.count.waitingRelease = false) : s.count.lu.recessiveTime ≤ 2550 :=
    (s.count_recessiveTime.2 hw).trans_le h.line.recessiveTime
  rcases s.idle_cases with hidle | hidle <;> rw [hidle]
  · exact (KeepsBounds.runLocal _).counts _ (h.count.runLine hquiet)
  · obtain ⟨hlu, -⟩ := s.count.runLocal_keeps
    refine ((KeepsBounds.runLocal _).counts _ h.count).runLine fun hw => ?_
    rw [State.waitingRelease, hlu] at hw
    rw [hlu]
    exact hquiet hw

/-! ### Every step -/

theorem KeepsBounds.externalReset (b : Bool) (s : State) : ∃ t, exec (.externalHostReset b) s = .next t ∧ KeepsBounds s t := by
  refine ⟨_, rfl, .ite (fun _ => ?_) (fun _ => .refl s)⟩
  have latched : KeepsBounds s { s with ru := { s.ru with rstLatched := true } } := .setFlags rfl rfl
  refine .ite (fun _ => ?_) (fun _ => latched)
  have posted := latched.trans (.post .hostResetSeen _)
  generalize State.post .hostResetSeen { s with ru := { s.ru with rstLatched := true } } = x at posted ⊢
  refine posted.trans ?_
  dsimp only
  cases x.own.state with
  | absent => exact .refl x
  | recovering => exact .refl x
  | _ => exact .depart x

theorem KeepsBounds.mclrAssertion (b : Bool) (s : State) : ∃ t, exec (.mclrAssertion b) s = .next t ∧ KeepsBounds s t := by
  have taken : KeepsBounds s { s with ru := { s.ru with mclrReady := false } } := .setFlags rfl rfl
  exact ⟨_, rfl, .ite (fun _ => .ite (fun _ => .ite (fun _ => .setFlags rfl rfl) (fun _ => taken.trans (.releaseHost _))) (fun _ => taken))
    (fun _ => .refl s)⟩

/-- Every command answers a next state whose counts and queue are in range where its state's were. -/
theorem exec_keepsBounds (c : Instr) (s : State) : ∃ t, exec c s = .next t ∧ KeepsBounds s t := by
  cases c with
  | powerOn straps levels rstsense => exact ⟨_, rfl, .of_fresh rfl rfl rfl rfl rfl rfl rfl rfl⟩
  | ncsAssert => exact ⟨_, rfl, .ite (fun _ => .setPort rfl rfl (fun _ h => h) le_rfl rfl) (fun _ => .refl s)⟩
  | ncsRelease => exact ⟨_, rfl, .setPort rfl rfl (fun _ h => h) le_rfl rfl⟩
  | badCommandFrame sdi => exact ⟨_, rfl, .takeIn (.takeFrameBits sdi s)⟩
  | responseDelivered => exact ⟨_, rfl, .deliver s⟩
  | configure record => exact ⟨_, rfl, .takeIn (.runHostCommand (.configure record) s)⟩
  | status => exact ⟨_, rfl, .takeIn (.runHostCommand .status s)⟩
  | restart => exact ⟨_, rfl, .takeIn (.runHostCommand .restart s)⟩
  | join => exact ⟨_, rfl, .takeIn (.runHostCommand .join s)⟩
  | leave => exact ⟨_, rfl, .takeIn (.runHostCommand .leave s)⟩
  | accuse address => exact ⟨_, rfl, .takeIn (.runHostCommand (.accuse address) s)⟩
  | pardon address => exact ⟨_, rfl, .takeIn (.runHostCommand (.pardon address) s)⟩
  | prompt sequence => exact ⟨_, rfl, .takeIn (.runHostCommand (.prompt sequence) s)⟩
  | publish word => exact ⟨_, rfl, .takeIn (.runHostCommand (.publish word) s)⟩
  | snapshot => exact ⟨_, rfl, .takeIn (.runHostCommand .snapshot s)⟩
  | readEntry => exact ⟨_, rfl, .takeIn (.runHostCommand .readEntry s)⟩
  | discardSnapshot => exact ⟨_, rfl, .takeIn (.runHostCommand .discardSnapshot s)⟩
  | readEvent => exact ⟨_, rfl, .takeIn (.runHostCommand .readEvent s)⟩
  | roundMark => exact ⟨_, rfl, .takeMark s⟩
  | roundTimerExpiry => exact ⟨_, rfl, .expireRoundTimer s⟩
  | listenWindowExpiry => exact ⟨_, rfl, .expireListenWindow s⟩
  | ownSlotStart => exact ⟨_, rfl, .startOwnSlot s⟩
  | ownSlotEnd clean => exact ⟨_, rfl, .endOwnSlot clean s⟩
  | slotClose slot reading => exact ⟨_, rfl, .closeSlot slot _ s⟩
  | announceFrame slot frame => exact ⟨_, rfl, .closeSlot slot _ s⟩
  | joinFrame slot frame => exact ⟨_, rfl, .closeSlot slot _ s⟩
  | leaveFrame slot frame => exact ⟨_, rfl, .closeSlot slot _ s⟩
  | verdictFieldStart => exact ⟨_, rfl, .startField s⟩
  | roundEnd condemn clear => exact ⟨_, rfl, .endRound condemn clear s⟩
  | collision => exact ⟨_, rfl, .takeCollision s⟩
  | lineStuck => exact ⟨_, rfl, .stickLine s⟩
  | lineReleased => exact ⟨_, rfl, .releaseLine s⟩
  | promptWarning => exact ⟨_, rfl, .warnTimer s⟩
  | promptLapsed => exact ⟨_, rfl, .lapseTimer s⟩
  | pulseEnd => exact ⟨_, rfl, .endPulse s⟩
  | pulseConfirmed => exact ⟨_, rfl, .ite (fun _ => .setFlags rfl rfl) (fun _ => .refl s)⟩
  | externalHostReset begunInIdle => exact KeepsBounds.externalReset begunInIdle s
  | mclrAssertion begunInHeld => exact KeepsBounds.mclrAssertion begunInHeld s
  | recoveryWindowEnd => exact ⟨_, rfl, .ite (fun _ => .endWindow s) (fun _ => .refl s)⟩
  | inputChange input level =>
    have changed := KeepsBounds.setService s { s.cm with levels := s.cm.levels ^^^ BitVec.twoPow 4 input.val }
    exact ⟨_, rfl, .ite (fun _ => .refl s) (fun _ => .ite (fun _ => changed.trans (.post _ _)) (fun _ => changed))⟩
  | turnaroundEnd => exact ⟨_, rfl, .ite (fun _ => .setPort rfl rfl (fun _ h => h) le_rfl rfl) (fun _ => .refl s)⟩
  | releaseMeasurementRestart => exact ⟨_, rfl, .restartMeasurement s⟩
  | mclrRelease => exact ⟨_, rfl, .setFlags rfl rfl⟩
  | rstsenseRelease => exact ⟨_, rfl, .setFlags rfl rfl⟩

/-- Every step keeps the ranges of the counts and the bounds of the queue, an idle millisecond with the measurement of recessive time as the one
count that passes its limit on the way. -/
theorem step_keepsBounds {s t : State} (h : step s = .next t) :
    (CountsInRange 2550 s → CountsInRange 2550 t) ∧ (QueueBounded s → QueueBounded t) := by
  unfold step at h
  cases hq : s.pending with
  | nil =>
    rw [hq] at h
    rw [← Host.Outcome.next.inj h]
    exact ⟨CountsInRange.idle, fun hs => hs.posts (.idle s)⟩
  | cons c rest =>
    rw [hq] at h
    have dequeued : KeepsBounds s { s with pending := rest } := .of_posts (.of_hp rfl) rfl rfl rfl rfl
    obtain ⟨u, hu, hk⟩ := exec_keepsBounds c { s with pending := rest }
    rw [← Host.Outcome.next.inj (hu.symm.trans h)]
    have kept := dequeued.trans hk
    exact ⟨kept.counts 2550, kept.queue⟩

/-- Settles O7: each shared operation keeps the ranges and the bounds (KeepsBounds); the attempt number follows the reset limit of the state it stands
in, which StepKeepsPart keeps. -/
theorem stepKeepsQueueBounds : Obligations.StepKeepsQueueBounds :=
  ⟨fun _ _ hs h => (step_keepsBounds h).2 hs,
   fun _ _ hs hp h => ((step_keepsBounds h).1 (hs.inRange hp.line)).bounded ((step_keepsAll h).part hp)⟩

end Sys2Proof.Machine
end

section
/-! SUPPORT. The fields that share a byte, as numbers; an event record read back by the host; and the statements about the announce frame, the records
that the host reads whole and the event record. -/

namespace Sys2Proof

/-! ### Fields that share a byte (R168, R169, R172) -/

/-- Of two fields side by side the first is the more significant one (R168). -/
theorem toNat_append_add {m n : Nat} (x : BitVec m) (y : BitVec n) : (x ++ y).toNat = 2 ^ n * x.toNat + y.toNat := by
  rw [BitVec.toNat_append, ← Nat.shiftLeft_add_eq_or_of_lt y.isLt, Nat.shiftLeft_eq, Nat.mul_comm]

theorem toNat_nibbleOf (a : Addr) : (nibbleOf a).toNat = a.val := by
  rw [nibbleOf, BitVec.toNat_ofNat]
  exact Nat.mod_eq_of_lt a.isLt

theorem toNat_byteOf {n : Nat} (h : n ≤ 255) : (byteOf n).toNat = n := by
  rw [byteOf, BitVec.toNat_ofNat]
  exact Nat.mod_eq_of_lt (by omega)

/-- Byte 1 of an announce frame and of the entry record: a code and an address. -/
theorem toNat_append_nibbleOf {n : Nat} (c : BitVec n) (a : Addr) : (c ++ nibbleOf a).toNat = 16 * c.toNat + a.val := by
  rw [toNat_append_add, toNat_nibbleOf]
  rfl

/-- A field under unused bits. -/
theorem toNat_unused_append {m n : Nat} (x : BitVec n) : (0#m ++ x).toNat = x.toNat := by
  rw [toNat_append_add, BitVec.toNat_zero, Nat.mul_zero, Nat.zero_add]

/-- The host state and the attempt number, each under an unused bit. -/
theorem toNat_stateByte (h a : BitVec 3) : ((0#1 ++ h) ++ (0#1 ++ a) : BitVec 8).toNat = 16 * h.toNat + a.toNat := by
  rw [toNat_append_add, toNat_unused_append, toNat_unused_append]
  rfl

/-- A four-bit field and a count up to 7 under an unused bit. -/
theorem toNat_nibble_append_count (x : BitVec 4) {n : Nat} (h : n ≤ 7) :
    (x ++ (0#1 ++ BitVec.ofNat 3 n) : BitVec 8).toNat = 16 * x.toNat + n := by
  have hn : (BitVec.ofNat 3 n).toNat = n := Nat.mod_eq_of_lt (by omega)
  rw [toNat_append_add, toNat_unused_append, hn]
  rfl

/-- A count in a two-byte field (R168). -/
theorem toNat_highByte_lowByte_ofNat {n : Nat} (h : n ≤ 65535) :
    256 * (highByte (BitVec.ofNat 16 n)).toNat + (lowByte (BitVec.ofNat 16 n)).toNat = n := by
  rw [toNat_highByte_lowByte, BitVec.toNat_ofNat]
  exact Nat.mod_eq_of_lt (by omega)

end Sys2Proof

namespace Sys2Proof.Machine

/-! ### The announce frame (R169) -/

theorem HostState.ofCode_code (h : HostState) : HostState.ofCode h.code = h := by cases h <;> rfl

/-- Settles O13: the frame read back from its bytes, then byte by byte, the fields that share one by their widths. -/
theorem announceFrameRoundTrip : Obligations.AnnounceFrameRoundTrip := by
  refine ⟨fun kind sender f => ?_, rfl, HostState.ofCode_code, rfl⟩
  refine ⟨length_frameBytes kind sender f, by rw [frameOfBytes_frameBytes, if_pos rfl], ?_, rfl, toNat_highByte_lowByte _,
    toNat_highByte_lowByte _, toNat_stateByte _ _, toNat_unused_append _, toNat_highByte_lowByte _, toNat_highByte_lowByte _,
    toNat_highByte_lowByte _, toNat_highByte_lowByte _⟩
  refine (toNat_append_nibbleOf kind.code sender).trans ?_
  cases kind <;> rfl

/-! ### The records that the host reads whole (R172) -/

/-- Byte 1 of the status record. -/
theorem toNat_lineByte (configured : Bool) (line : BitVec 3) (a : Addr) :
    ((bitOf configured ++ line) ++ nibbleOf a : BitVec 8).toNat = 128 * configured.toNat + 16 * line.toNat + a.val := by
  rw [toNat_append_nibbleOf, toNat_append_add, bitOf, BitVec.toNat_ofBool]
  omega

/-- Byte 2 of the status record. -/
theorem toNat_ownByte (entry : BitVec 3) (timer reset : BitVec 2) (loaded : Bool) :
    ((entry ++ timer) ++ (reset ++ bitOf loaded) : BitVec 8).toNat =
      32 * entry.toNat + 8 * timer.toNat + 2 * reset.toNat + loaded.toNat := by
  simp only [toNat_append_add, bitOf, BitVec.toNat_ofBool]
  omega

/-- Byte 6 of the entry record: the presence bits and the marks. -/
theorem toNat_presenceByte (stranger mismatch agrees admission heard incarnation : Bool) :
    ((0#2 ++ (bitOf stranger ++ bitOf mismatch)) ++ ((bitOf agrees ++ bitOf admission) ++ (bitOf heard ++ bitOf incarnation)) :
      BitVec 8).toNat = incarnation.toNat + 2 * heard.toNat + 4 * admission.toNat + 8 * agrees.toNat + 16 * mismatch.toNat +
        32 * stranger.toNat := by
  simp only [toNat_append_add, bitOf, BitVec.toNat_ofBool, BitVec.toNat_zero]
  omega

/-- Settles O16, byte by byte: the fields that share a byte by their widths, the counts by their ranges. -/
theorem recordsCarryEveryItem : Obligations.RecordsCarryEveryItem := by
  refine ⟨fun s hV hQ hremaining hattempt hrecovery hqueue hlost hgarbled => ?_, fun c a hV hQ hmiss hsplits hadmission => ?_,
    rfl, rfl, rfl, rfl⟩
  · have hcursor : (nibbleOf s.hp.cursor ++ (0#1 ++ BitVec.ofNat 3 s.ru.attempt) : BitVec 8).toNat =
        16 * s.hp.cursor.val + s.ru.attempt := by
      rw [toNat_nibble_append_count _ hattempt, toNat_nibbleOf]
    exact ⟨rfl, toNat_lineByte _ _ _, toNat_ownByte _ _ _ _, rfl, toNat_highByte_lowByte _, toNat_byteOf (by omega),
      toNat_byteOf (by omega), toNat_highByte_lowByte_ofNat hremaining, rfl, hcursor, toNat_byteOf hrecovery,
      toNat_unused_append _, toNat_highByte_lowByte _, toNat_byteOf (by omega), toNat_byteOf hlost,
      toNat_highByte_lowByte_ofNat hgarbled⟩
  · have hentry : ((0#1 ++ c.table[a].state.code) ++ nibbleOf a : BitVec 8).toNat = 16 * c.table[a].state.code.toNat + a.val := by
      rw [toNat_append_nibbleOf, toNat_unused_append]
    have hrounds : c.table[a].admission.getD 0 ≤ 8 := by
      cases h : c.table[a].admission with
      | none => exact Nat.zero_le 8
      | some n => exact hadmission n h
    have hcounts : (BitVec.ofNat 4 (c.table[a].admission.getD 0) ++ (0#1 ++ BitVec.ofNat 3 c.table[a].missCount) : BitVec 8).toNat =
        16 * c.table[a].admission.getD 0 + c.table[a].missCount := by
      rw [toNat_nibble_append_count _ hmiss, BitVec.toNat_ofNat, Nat.mod_eq_of_lt (by omega)]
    exact ⟨rfl, hentry, toNat_highByte_lowByte _, toNat_byteOf (by omega), toNat_byteOf (by omega),
      toNat_presenceByte _ _ _ _ _ _, rfl, toNat_highByte_lowByte _, toNat_stateByte _ _, hcounts,
      toNat_unused_append _, toNat_highByte_lowByte _, toNat_byteOf hsplits⟩

/-! ### The event record as the host reads it (R173) -/

/-- The cause of SUSPECTED that the host reads from a code. -/
def SuspectCause.ofCode (c : Byte) : SuspectCause :=
  if c = 0 then .evidence else if c = 1 then .accused else if c = 2 then .self else .split

/-- The reason of LEFT that the host reads from a code. -/
def LeftReason.ofCode (c : Byte) : LeftReason := if c = 0 then .silent else .leave

/-- The reason of JOIN_FAILED that the host reads from a code. -/
def JoinFailure.ofCode (c : Byte) : JoinFailure := if c = 0 then .duplicateAddress else if c = 1 then .profile else .withdrawn

/-- The reason of ATTEMPT_END that the host reads from a code. -/
def AttemptEnd.ofCode (c : Byte) : AttemptEnd := if c = 0 then .confirmed else if c = 1 then .unconfirmed else .rejoined

/-- The way of entry that the host reads from a code. -/
def WayOfEntry.ofCode (c : Byte) : WayOfEntry := if c = 0 then .markObserved else .ownMark

theorem SuspectCause.ofCode_code (c : SuspectCause) : SuspectCause.ofCode c.code = c := by cases c <;> rfl

theorem LeftReason.ofCode_code (r : LeftReason) : LeftReason.ofCode r.code = r := by cases r <;> rfl

theorem JoinFailure.ofCode_code (r : JoinFailure) : JoinFailure.ofCode r.code = r := by cases r <;> rfl

theorem AttemptEnd.ofCode_code (r : AttemptEnd) : AttemptEnd.ofCode r.code = r := by cases r <;> rfl

theorem WayOfEntry.ofCode_code (w : WayOfEntry) : WayOfEntry.ofCode w.code = w := by cases w <;> rfl

/-- The event that the host reads from the kind code, the subject and the detail bytes. The two forms of LOST share a code, and the subject tells
them apart. -/
def Event.ofParts (kind : Byte) (subject : Option Addr) (detail : List Byte) : Option Event :=
  match kind.toNat, subject, detail with
  | 0x01, some p, [i, _, _, _] => some (.joined p i)
  | 0x02, some p, [r, _, _, _] => some (.left p (.ofCode r))
  | 0x03, some p, [c, _, _, _] => some (.suspected p (.ofCode c))
  | 0x04, some p, _ => some (.cleared p)
  | 0x05, some p, [n, _, _, _] => some (.condemned p n.toNat)
  | 0x06, some p, [n, _, _, _] => some (.split p n.toNat)
  | 0x07, some p, _ => some (.lost p)
  | 0x07, none, [n, _, _, _] => some (.lossRecord n.toNat)
  | 0x08, some p, [n, _, _, _] => some (.heldSeen p (n.setWidth 3))
  | 0x09, some p, [i, j, _, _] => some (.restarted p i j)
  | 0x0A, some p, [i, _, _, _] => some (.stranger p i)
  | 0x0B, some p, [f, _, _, _] => some (.condition p (f.setWidth 4))
  | 0x0C, some p, [hi, lo, _, _] => some (.service p (wordOf hi lo))
  | 0x0D, some p, [hi, lo, _, _] => some (.profileMismatch p (wordOf hi lo))
  | 0x0E, some p, [hi, lo, _, _] => some (.viewMismatch p (wordOf hi lo))
  | 0x21, none, [i, _, _, _] => some (.joinDone i)
  | 0x22, none, [r, _, _, _] => some (.joinFailed (.ofCode r))
  | 0x23, none, [n, _, _, _] => some (.promptWarning n)
  | 0x24, none, [n, _, _, _] => some (.promptLapsed n)
  | 0x25, none, [f, _, _, _] => some (.inputChange (f.setWidth 4))
  | 0x26, none, [n, _, _, _] => some (.attemptStart n.toNat)
  | 0x27, none, [r, n, _, _] => some (.attemptEnd (.ofCode r) n.toNat)
  | 0x28, none, [n, _, _, _] => some (.hostHeld n.toNat)
  | 0x29, none, _ => some .hostReleased
  | 0x2A, none, _ => some .hostResetSeen
  | 0x41, none, [w, _, _, _] => some (.lineSynced (.ofCode w))
  | 0x42, none, _ => some .lineStuck
  | 0x43, none, _ => some .lineReleased
  | 0x44, none, _ => some .duplicateAddress
  | 0x45, none, [hi, lo, hi', lo'] => some (.roundResync (wordOf hi lo) (wordOf hi' lo'))
  | _, _, _ => none

/-- The subject that the host reads from byte 4: an address 0 to 15, or none. -/
def subjectOfByte (b : Byte) : Option Addr := if h : b.toNat < 16 then some ⟨b.toNat, h⟩ else none

/-- The record that the host reads from the bytes of READ_EVENT's answer. -/
def EventRecord.ofBytes (bs : List Byte) : Option EventRecord :=
  match bs with
  | kind :: hi :: lo :: subject :: detail =>
    (Event.ofParts kind (subjectOfByte subject) detail).map fun e => { round := wordOf hi lo, event := e }
  | _ => none

/-- The count that an event carries fits into its detail byte. -/
def Event.CountFits (e : Event) : Prop :=
  match e with
  | .condemned _ n | .split _ n | .attemptStart n | .attemptEnd _ n | .hostHeld n | .lossRecord n => n ≤ 255
  | _ => True

/-- An event is read back from its kind code, its subject and its detail, for each kind from the fields of its detail. -/
theorem Event.ofParts_record {e : Event} (h : e.CountFits) : Event.ofParts e.code e.subject e.detail = some e := by
  cases e with
  | left p r => exact congrArg (some <| Event.left p ·) r.ofCode_code
  | suspected p c => exact congrArg (some <| Event.suspected p ·) c.ofCode_code
  | joinFailed r => exact congrArg (some <| Event.joinFailed ·) r.ofCode_code
  | lineSynced w => exact congrArg (some <| Event.lineSynced ·) w.ofCode_code
  | attemptEnd r n => exact congrArg₂ (some <| Event.attemptEnd · ·) r.ofCode_code (toNat_byteOf h)
  | condemned p n => exact congrArg (some <| Event.condemned p ·) (toNat_byteOf h)
  | split p n => exact congrArg (some <| Event.split p ·) (toNat_byteOf h)
  | attemptStart n => exact congrArg (some <| Event.attemptStart ·) (toNat_byteOf h)
  | hostHeld n => exact congrArg (some <| Event.hostHeld ·) (toNat_byteOf h)
  | lossRecord n => exact congrArg (some <| Event.lossRecord ·) (toNat_byteOf h)
  | heldSeen p n => exact congrArg (some <| Event.heldSeen p ·) BitVec.setWidth_append_eq_right
  | condition p f => exact congrArg (some <| Event.condition p ·) BitVec.setWidth_append_eq_right
  | inputChange f => exact congrArg (some <| Event.inputChange ·) BitVec.setWidth_append_eq_right
  | service p w => exact congrArg (some <| Event.service p ·) (wordOf_highByte_lowByte w)
  | profileMismatch p w => exact congrArg (some <| Event.profileMismatch p ·) (wordOf_highByte_lowByte w)
  | viewMismatch p w => exact congrArg (some <| Event.viewMismatch p ·) (wordOf_highByte_lowByte w)
  | roundResync o n => exact congrArg₂ (some <| Event.roundResync · ·) (wordOf_highByte_lowByte o) (wordOf_highByte_lowByte n)
  | _ => rfl

theorem EventRecord.bytes_eq (r : EventRecord) : r.bytes =
    r.event.code :: highByte r.round :: lowByte r.round :: r.event.subject.elim 0xFF (fun a => byteOf a.val) :: r.event.detail := by
  unfold EventRecord.bytes
  cases r.event.subject <;> rfl

/-- The subject is read back from byte 4. -/
theorem subjectOfByte_elim (subject : Option Addr) : subjectOfByte (subject.elim 0xFF fun a => byteOf a.val) = subject := by
  cases subject with
  | none => rfl
  | some a =>
    have hbyte : (byteOf a.val).toNat = a.val := toNat_byteOf (by omega)
    rw [Option.elim_some, subjectOfByte, dif_pos (by omega)]
    exact congrArg some (Fin.ext hbyte)

theorem EventRecord.length_bytes (r : EventRecord) : r.bytes.length = 8 := by
  have hdetail : r.event.detail.length = 4 := by cases r.event <;> rfl
  rw [r.bytes_eq, List.length_cons, List.length_cons, List.length_cons, List.length_cons, hdetail]

/-- An event record is read back from its bytes. -/
theorem EventRecord.ofBytes_bytes {r : EventRecord} (h : r.event.CountFits) : EventRecord.ofBytes r.bytes = some r := by
  rw [EventRecord.bytes_eq, EventRecord.ofBytes, subjectOfByte_elim, Event.ofParts_record h, wordOf_highByte_lowByte, Option.map_some]

/-- Settles O17: a record is what the host reads back from its bytes; the bytes of each kind are those of the table, a field of less than eight bits
widened. -/
theorem eventRecordsDistinct : Obligations.EventRecordsDistinct := by
  refine ⟨fun r q hcounts => ⟨r.length_bytes, fun heq => ?_⟩, fun w p i j n q f x y => ?_⟩
  · have hr : r.event.CountFits := hcounts r List.mem_cons_self
    have hq : q.event.CountFits := hcounts q (List.mem_cons_of_mem r List.mem_cons_self)
    have hread : some r = some q :=
      calc
        some r = EventRecord.ofBytes r.bytes := (EventRecord.ofBytes_bytes hr).symm
        _ = EventRecord.ofBytes q.bytes := by rw [heq]
        _ = some q := EventRecord.ofBytes_bytes hq
    exact Option.some.inj hread
  · have hattempt : q.setWidth 8 = 0#5 ++ q := BitVec.setWidth_eq_append (by decide)
    have hflags : f.setWidth 8 = 0#4 ++ f := BitVec.setWidth_eq_append (by decide)
    rw [hattempt, hflags]
    and_intros <;> rfl

end Sys2Proof.Machine
end

section
/-! SUPPORT. What no command touches: the commands that wait and the count of idle milliseconds (log entries 2 and 5), and the
statements about them. -/

namespace Sys2Proof.Machine

/-- An operation leaves the model's own items: the commands that wait and the count of idle milliseconds. -/
structure KeepsQueue (s t : State) : Prop where
  pending : t.pending = s.pending
  ticks : t.ticks = s.ticks

theorem KeepsQueue.refl (s : State) : KeepsQueue s s := ⟨rfl, rfl⟩

theorem KeepsQueue.trans {r s t : State} (h : KeepsQueue r s) (k : KeepsQueue s t) : KeepsQueue r t :=
  ⟨k.pending.trans h.pending, k.ticks.trans h.ticks⟩

theorem KeepsQueue.ite {c : Prop} [Decidable c] {s t u : State} (ht : KeepsQueue s t) (hu : KeepsQueue s u) :
    KeepsQueue s (if c then t else u) := by
  split
  · exact ht
  · exact hu

/-! ### The rounds -/

theorem KeepsQueue.beginRound (d : Driving) (s : State) : KeepsQueue s (s.beginRound d) :=
  ⟨State.beginRound_pending d s, State.beginRound_ticks d s⟩

theorem KeepsQueue.enterSynced (d : Driving) (w : WayOfEntry) (s : State) : KeepsQueue s (s.enterSynced d w) :=
  ⟨State.enterSynced_pending d w s, State.enterSynced_ticks d w s⟩

theorem KeepsQueue.restartMeasurement (s : State) : KeepsQueue s s.restartMeasurement := .ite ⟨rfl, rfl⟩ (.refl s)

theorem KeepsQueue.takeMark (s : State) : KeepsQueue s s.takeMark :=
  .ite (.ite (.beginRound _ s) (.refl s)) (.ite (.enterSynced _ _ s) (.restartMeasurement s))

theorem KeepsQueue.expireRoundTimer (s : State) : KeepsQueue s s.expireRoundTimer := .ite (.beginRound _ s) (.refl s)

theorem KeepsQueue.expireListenWindow (s : State) : KeepsQueue s s.expireListenWindow := .ite (.enterSynced _ _ s) (.refl s)

theorem KeepsQueue.closeSlot (k : Addr) (r : Reception) (s : State) : KeepsQueue s (s.closeSlot k r) := by
  refine .ite ?_ (.refl s)
  cases r with
  | silent => exact ⟨rfl, rfl⟩
  | garbled => exact ⟨rfl, rfl⟩
  | frame kind body => exact ⟨State.takeFrame_pending kind k body _, State.takeFrame_ticks kind k body _⟩

theorem KeepsQueue.startOwnSlot (s : State) : KeepsQueue s s.startOwnSlot :=
  .ite ⟨s.composeOwn_pending, s.composeOwn_ticks⟩ (.refl s)

/-- The report of the own frame reaches the Line Unit and the View Unit alone (R2, R63). -/
theorem KeepsQueue.reportWhole (s : State) : KeepsQueue s s.reportWhole := by
  unfold State.reportWhole
  cases s.lu.ownFrame with
  | none => exact .refl s
  | some fr => exact .ite ⟨rfl, rfl⟩ ⟨rfl, rfl⟩

theorem KeepsQueue.endOwnSlot (clean : Bool) (s : State) : KeepsQueue s (s.endOwnSlot clean) := by
  refine .ite ?_ (.refl s)
  have closed : KeepsQueue s { s with lu := { s.lu with pos := .slots (s.ownAddr.val + 1), driving := .nothing } } := ⟨rfl, rfl⟩
  exact closed.trans (.ite (.ite (.reportWhole _) ⟨rfl, rfl⟩) (.refl _))

theorem KeepsQueue.startField (s : State) : KeepsQueue s s.startField := .ite ⟨rfl, rfl⟩ (.refl s)

theorem KeepsQueue.resync (s : State) : KeepsQueue s s.resync := ⟨s.resync_pending, s.resync_ticks⟩

theorem KeepsQueue.releaseIfRequested (s : State) : KeepsQueue s s.releaseIfRequested :=
  ⟨s.releaseIfRequested_pending, s.releaseIfRequested_ticks⟩

theorem KeepsQueue.roundEndWork (resynced : Bool) (s : State) : KeepsQueue s (s.roundEndWork resynced) :=
  ⟨s.roundEndWork_pending resynced, s.roundEndWork_ticks resynced⟩

/-- A requested release keeps the queue wherever it falls among the parts of the round end (log entry 6). -/
theorem KeepsQueue.endRound (condemn clear : AddrSet) (s : State) : KeepsQueue s (s.endRound condemn clear) := by
  have sampled : KeepsQueue s ({ s with lu := { s.lu with pos := .rest, driving := .nothing } }.sampleField condemn clear) := ⟨rfl, rfl⟩
  have checked (x : State) : KeepsQueue x
      (if x.releaseDue && Config.releaseBeforeResync then x.releaseIfRequested.resync else x.resync) :=
    .ite ((KeepsQueue.releaseIfRequested x).trans (.resync _)) (.resync x)
  refine .ite ((sampled.trans (checked _)).trans ?_) (.refl s)
  exact .ite ((KeepsQueue.releaseIfRequested _).trans (.roundEndWork _ _)) ((KeepsQueue.roundEndWork _ _).trans (.releaseIfRequested _))

theorem KeepsQueue.postLeaving (e : Event) (s : State) : KeepsQueue s (s.postLeaving e) :=
  ⟨s.postLeaving_pending e, s.postLeaving_ticks e⟩

theorem KeepsQueue.stickLine (s : State) : KeepsQueue s s.stickLine := by
  refine .ite (.trans ?_ (.postLeaving _ _)) (.restartMeasurement s)
  exact ⟨rfl, rfl⟩

theorem KeepsQueue.takeCollision (s : State) : KeepsQueue s s.takeCollision := by
  have withdrawn : KeepsQueue s s.withdrawBlocked := ⟨s.withdrawBlocked_pending, s.withdrawBlocked_ticks⟩
  have blocked : KeepsQueue s (s.withdrawBlocked.leaveRounds .blocked) := withdrawn.trans ⟨rfl, rfl⟩
  exact .ite (blocked.trans (.postLeaving _ _)) (.refl s)

theorem KeepsQueue.releaseLine (s : State) : KeepsQueue s s.releaseLine := .ite ⟨rfl, rfl⟩ (.refl s)

/-! ### The Reset Unit -/

theorem KeepsQueue.depart (s : State) : KeepsQueue s s.depart := ⟨s.depart_pending, s.depart_ticks⟩

theorem KeepsQueue.externalReset (b : Bool) (s : State) : ∃ t, exec (.externalHostReset b) s = .next t ∧ KeepsQueue s t := by
  refine ⟨_, rfl, .ite (.ite ?_ ⟨rfl, rfl⟩) (.refl s)⟩
  have posted : KeepsQueue s (State.post .hostResetSeen { s with ru := { s.ru with rstLatched := true } }) := ⟨rfl, rfl⟩
  generalize State.post .hostResetSeen { s with ru := { s.ru with rstLatched := true } } = x at posted ⊢
  refine posted.trans ?_
  dsimp only
  cases x.own.state with
  | absent => exact .refl x
  | recovering => exact .refl x
  | _ => exact .depart x

/-! ### The host port -/

theorem KeepsQueue.answerWith (st : Status) (data : List Byte) (adv : Option Advance) (s : State) :
    KeepsQueue s (s.answerWith st data adv) := ⟨rfl, rfl⟩

theorem KeepsQueue.answer (st : Status) (data : List Byte) (s : State) : KeepsQueue s (s.answer st data) := .answerWith st data none s

theorem KeepsQueue.takeIn {f : State → State} {s : State} (h : KeepsQueue s (f s)) : KeepsQueue s (s.takeIn f) := .ite h (.refl s)

theorem KeepsQueue.ifConfigured {f : State → State} {s : State} (h : KeepsQueue s (f s)) : KeepsQueue s (s.ifConfigured f) :=
  .ite h (.answer _ _ s)

theorem KeepsQueue.configureBody (r : ConfigRecord) (s : State) : KeepsQueue s (s.configureBody r) :=
  .ite (.answer _ _ s) (.ite (.answer _ _ s) ⟨rfl, rfl⟩)

/-- RESTART resets the blocks, none of which holds the queue (log entry 2). -/
theorem KeepsQueue.restartBody (s : State) : KeepsQueue s s.restartBody := .ite ⟨rfl, rfl⟩ (.answer _ _ s)

theorem KeepsQueue.joinBody (s : State) : KeepsQueue s s.joinBody := by
  refine .ite (.trans ?_ (.answer _ _ _)) (.answer _ _ s)
  exact ⟨State.rejoin_pending _, State.rejoin_ticks _⟩

theorem KeepsQueue.leaveBody (s : State) : KeepsQueue s s.leaveBody := by
  unfold State.leaveBody
  cases s.own.state with
  | absent => exact .answer _ _ s
  | recovering => exact .answer _ _ s
  | _ => exact (KeepsQueue.depart s).trans (.answer _ _ _)

theorem KeepsQueue.accuseBody (a : Byte) (s : State) : KeepsQueue s (s.accuseBody a) := by
  unfold State.accuseBody
  cases addrOfByte a with
  | none => exact .answer _ _ s
  | some j =>
    refine .ite (.answer _ _ s) (.ite (.trans (.ite ?_ ?_) (.answer _ _ _)) (.answer _ _ s))
    · exact ⟨rfl, rfl⟩
    · exact ⟨State.testEvidence_pending j _, State.testEvidence_ticks j _⟩

theorem KeepsQueue.pardonBody (a : Byte) (s : State) : KeepsQueue s (s.pardonBody a) := by
  unfold State.pardonBody
  cases addrOfByte a with
  | none => exact .answer _ _ s
  | some j => exact ⟨rfl, rfl⟩

theorem KeepsQueue.promptBody (n : Byte) (s : State) : KeepsQueue s (s.promptBody n) := by
  unfold State.promptBody
  cases s.pt.state with
  | disarmed => exact .answer _ _ s
  | lapsed => exact .answer _ _ s
  | _ => exact .ite ⟨rfl, rfl⟩ (.answer _ _ s)

theorem KeepsQueue.readEventBody (s : State) : KeepsQueue s s.readEventBody := by
  unfold State.readEventBody
  cases s.hp.queue with
  | nil => exact .answer _ _ s
  | cons r rest => exact .answerWith _ _ _ s

theorem KeepsQueue.readEntryBody (s : State) : KeepsQueue s s.readEntryBody := by
  unfold State.readEntryBody
  cases s.hp.snapshot with
  | none => exact .answer _ _ s
  | some c => exact .answerWith _ _ _ s

theorem KeepsQueue.snapshotBody (s : State) : KeepsQueue s s.snapshotBody := by
  unfold State.snapshotBody
  cases s.hp.snapshot with
  | none => exact ⟨rfl, rfl⟩
  | some c => exact .answer _ _ s

theorem KeepsQueue.runHostCommand (c : HostCommand) (s : State) : KeepsQueue s (s.runHostCommand c) := by
  cases c with
  | status => exact .answer _ _ s
  | configure r => exact .configureBody r s
  | restart => exact .restartBody s
  | join => exact .ifConfigured (.joinBody s)
  | leave => exact .ifConfigured (.leaveBody s)
  | accuse a => exact .ifConfigured (.accuseBody a s)
  | pardon a => exact .ifConfigured (.pardonBody a s)
  | prompt n => exact .ifConfigured (.promptBody n s)
  | publish w => exact .ifConfigured ⟨rfl, rfl⟩
  | snapshot => exact .ifConfigured (.snapshotBody s)
  | readEntry => exact .ifConfigured (.readEntryBody s)
  | discardSnapshot => exact .ifConfigured ⟨rfl, rfl⟩
  | readEvent => exact .ifConfigured (.readEventBody s)

theorem KeepsQueue.takeFrameBits (sdi : List Bool) (s : State) : KeepsQueue s (s.takeFrameBits sdi) := by
  unfold State.takeFrameBits State.takeFrameBytes
  cases checkFrame (bytesOfBits sdi) with
  | incomplete => exact .refl s
  | badCheck => exact .answer _ _ s
  | badCommand => exact .answer _ _ s
  | good c => exact .runHostCommand c s

/-! ### Every command -/

theorem exec_keepsQueue (c : Instr) (s : State) : ∃ t, exec c s = .next t ∧ KeepsQueue s t := by
  have taken {f : State → State} (he : exec c s = .next (s.takeIn f)) (hf : KeepsQueue s (f s)) :
      ∃ t, exec c s = .next t ∧ KeepsQueue s t := ⟨_, he, .takeIn hf⟩
  cases c with
  | powerOn straps levels rstsense => exact ⟨_, rfl, rfl, rfl⟩
  | ncsAssert => exact ⟨_, rfl, .ite ⟨rfl, rfl⟩ (.refl s)⟩
  | ncsRelease => exact ⟨_, rfl, rfl, rfl⟩
  | badCommandFrame sdi => exact taken rfl (.takeFrameBits sdi s)
  | responseDelivered => exact ⟨_, rfl, s.deliver_pending, s.deliver_ticks⟩
  | configure record => exact taken rfl (.runHostCommand (.configure record) s)
  | status => exact taken rfl (.runHostCommand .status s)
  | restart => exact taken rfl (.runHostCommand .restart s)
  | join => exact taken rfl (.runHostCommand .join s)
  | leave => exact taken rfl (.runHostCommand .leave s)
  | accuse address => exact taken rfl (.runHostCommand (.accuse address) s)
  | pardon address => exact taken rfl (.runHostCommand (.pardon address) s)
  | prompt sequence => exact taken rfl (.runHostCommand (.prompt sequence) s)
  | publish word => exact taken rfl (.runHostCommand (.publish word) s)
  | snapshot => exact taken rfl (.runHostCommand .snapshot s)
  | readEntry => exact taken rfl (.runHostCommand .readEntry s)
  | discardSnapshot => exact taken rfl (.runHostCommand .discardSnapshot s)
  | readEvent => exact taken rfl (.runHostCommand .readEvent s)
  | roundMark => exact ⟨_, rfl, .takeMark s⟩
  | roundTimerExpiry => exact ⟨_, rfl, .expireRoundTimer s⟩
  | listenWindowExpiry => exact ⟨_, rfl, .expireListenWindow s⟩
  | ownSlotStart => exact ⟨_, rfl, .startOwnSlot s⟩
  | ownSlotEnd clean => exact ⟨_, rfl, .endOwnSlot clean s⟩
  | slotClose slot reading => exact ⟨_, rfl, .closeSlot slot _ s⟩
  | announceFrame slot frame => exact ⟨_, rfl, .closeSlot slot _ s⟩
  | joinFrame slot frame => exact ⟨_, rfl, .closeSlot slot _ s⟩
  | leaveFrame slot frame => exact ⟨_, rfl, .closeSlot slot _ s⟩
  | verdictFieldStart => exact ⟨_, rfl, .startField s⟩
  | roundEnd condemn clear => exact ⟨_, rfl, .endRound condemn clear s⟩
  | collision => exact ⟨_, rfl, .takeCollision s⟩
  | lineStuck => exact ⟨_, rfl, .stickLine s⟩
  | lineReleased => exact ⟨_, rfl, .releaseLine s⟩
  | promptWarning => exact ⟨_, rfl, s.warnTimer_pending, s.warnTimer_ticks⟩
  | promptLapsed => exact ⟨_, rfl, s.lapseTimer_pending, s.lapseTimer_ticks⟩
  | pulseEnd => exact ⟨_, rfl, s.endPulse_pending, s.endPulse_ticks⟩
  | pulseConfirmed => exact ⟨_, rfl, .ite ⟨rfl, rfl⟩ (.refl s)⟩
  | externalHostReset begunInIdle => exact KeepsQueue.externalReset begunInIdle s
  | mclrAssertion begunInHeld =>
    exact ⟨_, rfl, .ite (.ite (.ite ⟨rfl, rfl⟩ ⟨rfl, rfl⟩) ⟨rfl, rfl⟩) (.refl s)⟩
  | recoveryWindowEnd => exact ⟨_, rfl, .ite ⟨s.endWindow_pending, s.endWindow_ticks⟩ (.refl s)⟩
  | inputChange input level => exact ⟨_, rfl, .ite (.refl s) (.ite ⟨rfl, rfl⟩ ⟨rfl, rfl⟩)⟩
  | turnaroundEnd => exact ⟨_, rfl, .ite ⟨rfl, rfl⟩ (.refl s)⟩
  | releaseMeasurementRestart => exact ⟨_, rfl, .restartMeasurement s⟩
  | mclrRelease => exact ⟨_, rfl, rfl, rfl⟩
  | rstsenseRelease => exact ⟨_, rfl, rfl, rfl⟩

/-- Settles O2: each operation leaves the model's own items (KeepsQueue), and every command is made of them. -/
theorem commandsCompleteAndKeepTheQueue : Obligations.CommandsCompleteAndKeepTheQueue := by
  intro c s
  obtain ⟨t, ht, hpending, hticks⟩ := exec_keepsQueue c s
  exact ⟨t, ht, hpending, hticks⟩

/-- Settles O1: with a command in front, the second branch of `step` is the one taken. -/
theorem stepRunsFrontCommand : Obligations.StepRunsFrontCommand := by
  intro c rest s
  rfl

end Sys2Proof.Machine
end

section
/-! SUPPORT. The accusations of the host and its service word, the verdict field, and a line that sticks and is released. -/

namespace Sys2Proof.Machine

/-! ### ACCUSE, PARDON and PUBLISH (R45, R46, R132) -/

theorem addrOfByte_of_large {a : Byte} (h : 15 < a.toNat) : addrOfByte a = none := dif_neg (by omega)

theorem addrOfByte_of_toNat {a : Byte} {j : Addr} (h : a.toNat = j.val) : addrOfByte a = some j :=
  (dif_pos (h ▸ j.isLt)).trans (congrArg some (Fin.ext h))

theorem insertAddr_of_inSet {a : Addr} {x : AddrSet} (h : inSet a x = true) : insertAddr a x = x := by
  refine addrSet_ext fun b => ?_
  rw [inSet_insertAddr]
  by_cases hb : b = a
  · rw [hb, h, Bool.true_or]
  · rw [beq_false_of_ne hb, Bool.or_false]

/-- The part with an address added to the host accusation set, before the evidence test (R45). -/
def State.accusing (j : Addr) (s : State) : State :=
  { s with vu := { s.vu with hostAccused := insertAddr j s.vu.hostAccused } }

/-- A fresh accusation is evidence against a member: it is suspected where it is not SUSPECT already (R23, R27, R45). -/
theorem State.testEvidence_accusing {s : State} {j : Addr} (hj : j ≠ s.hp.address) (ho : s.own.state.isMember = true)
    (hm : (s.entry j).state.isMember = true) : (s.accusing j).testEvidence j = (s.accusing j).suspect j .evidence := by
  have hset : inSet j (s.accusing j).vu.hostAccused = true := by
    rw [State.accusing, inSet_insertAddr, beq_self_eq_true, Bool.or_true]
  have hevidence : (s.accusing j).evidence j = true := (State.evidence_iff _ _).2 ⟨hj, ho, hm, .inr (.inr (.inr hset))⟩
  exact if_pos hevidence

/-- An accepted ACCUSE (R45). -/
theorem State.accuseBody_accepted {s : State} {a : Byte} {j : Addr} (ha : a.toNat = j.val) (hj : j ≠ s.hp.address)
    (ho : s.own.state.isMember = true) (hm : (s.entry j).state.isMember = true) : s.accuseBody a =
      let t := if inSet j s.vu.hostAccused then s.accusing j else (s.accusing j).suspect j .evidence
      t.answer .ok (setBytes t.vu.hostAccused) := by
  rw [State.accuseBody, addrOfByte_of_toNat ha]
  dsimp only
  rw [if_neg (by exact hj), ho, hm, ← State.testEvidence_accusing hj ho hm]
  rfl

/-- Settles O27, in the order of R45's tests: the byte, the two entries, then the set and the state of the accused. -/
theorem accuseAnswered : Obligations.AccuseAnswered := by
  intro s a hp hc
  have hexec : exec (.accuse a) s = .next (s.accuseBody a) := congrArg Host.Outcome.next (State.takeIn_ifConfigured hp hc _)
  rw [hexec]
  refine ⟨fun h => congrArg Host.Outcome.next ?_, fun j ha hj => ⟨fun h => congrArg Host.Outcome.next ?_, fun ho hm => ?_⟩⟩
  · rcases h with h | h
    · rw [State.accuseBody, addrOfByte_of_large h]
      rfl
    · rw [State.accuseBody, addrOfByte_of_toNat h]
      exact if_pos rfl
  · rw [State.accuseBody, addrOfByte_of_toNat ha]
    dsimp only
    rw [if_neg (by exact hj), if_neg (by rwa [Bool.and_eq_true])]
    rfl
  · rw [State.accuseBody_accepted ha hj ho hm]
    refine ⟨fun hin => ?_, fun hout hsuspect => ?_, fun hout hmember => ?_⟩
    · rw [if_pos hin, State.accusing, insertAddr_of_inSet hin]
      rfl
    · have hstands : (s.accusing j).suspect j .evidence = s.accusing j :=
        (State.suspect_eq _ _ _).trans (if_neg (by rw [State.accusing]; exact fun h => EntryState.noConfusion (hsuspect.symm.trans h)))
      rw [if_neg (by rw [hout]; exact Bool.noConfusion), hstands]
      rfl
    · rw [if_neg (by rw [hout]; exact Bool.noConfusion), State.suspect_eq, if_pos (by exact hmember)]
      rfl

/-- Settles O28, by the byte of PARDON; PUBLISH asks for no state. -/
theorem pardonAndPublishAnswered : Obligations.PardonAndPublishAnswered := by
  intro s a w hp hc
  have htaken (f : State → State) : s.takeIn (State.ifConfigured f) = f s := State.takeIn_ifConfigured hp hc f
  refine ⟨fun h => congrArg Host.Outcome.next ?_, fun j ha => congrArg Host.Outcome.next ?_, congrArg Host.Outcome.next ?_⟩
  · rw [htaken, State.pardonBody, addrOfByte_of_large h]
    rfl
  · rw [htaken, State.pardonBody, addrOfByte_of_toNat ha]
    rfl
  · rw [htaken]
    rfl

/-! ### The verdict field starts (R33, R34, R91) -/

theorem State.fieldReady_iff (s : State) : s.fieldReady = true ↔
    ∃ n, (s.lu.state = .synced ∨ s.lu.state = .active) ∧ s.lu.pos = .slots n ∧ s.hp.address.val < n := by
  rw [State.fieldReady, Bool.and_eq_true, State.online_iff]
  cases s.lu.pos with
  | slots n =>
    refine ⟨fun ⟨ho, h⟩ => ⟨n, ho, rfl, of_decide_eq_true h⟩, fun ⟨m, ho, hn, h⟩ => ⟨ho, decide_eq_true ?_⟩⟩
    rwa [RoundPos.slots.inj hn]
  | outside => simp
  | ownSlot => simp
  | verdict => simp
  | rest => simp

/-- The condition of R33, item by item. -/
theorem State.drives_iff (s : State) : s.drives = true ↔ inSet s.hp.address s.vu.voters = true ∧
    (s.own.state = .member ∨ s.own.state = .suspect) ∧ s.lu.state = .active ∧ ¬ s.lu.inStep < s.lu.outOfStep := by
  have hmember : s.own.state.isMember = true ↔ s.own.state = .member ∨ s.own.state = .suspect := by
    cases s.own.state <;> simp [EntryState.isMember]
  simp only [State.drives, State.abstains, Bool.and_eq_true, beq_iff_eq, Bool.not_eq_true', decide_eq_false_iff_not, hmember,
    and_assoc]
  rfl

/-- Settles O49: the field starts in its place alone, and the two sets that the statement describes are those of R34. -/
theorem verdictFieldDriven : Obligations.VerdictFieldDriven := by
  refine fun s => ⟨fun h => congrArg Host.Outcome.next (if_neg ?_), fun n condemn clear hready hcondemn hclear =>
    congrArg Host.Outcome.next ?_⟩
  · rw [State.fieldReady_iff]
    exact fun ⟨n, hn⟩ => h n hn
  · have hc : s.condemnSet = condemn := addrSet_ext fun j => by
      rw [Bool.eq_iff_iff, State.inSet_condemnSet, hcondemn, State.drives_iff]
      rfl
    have hk : s.clearSet = clear := addrSet_ext fun j => by
      rw [Bool.eq_iff_iff, State.inSet_clearSet, hclear, State.drives_iff]
      rfl
    rw [State.startField, if_pos (s.fieldReady_iff.2 ⟨n, hready⟩), hc, hk]

/-! ### The line sticks and is released (R86, R87) -/

theorem State.restartMeasurement_of_not_waiting {s : State} (h : ¬ s.waitingRelease = true) : s.restartMeasurement = s := if_neg h

/-- Only a station that waits for release measures and is released (R87). -/
theorem exec_release_of_not_waiting {s : State} (h : ¬ s.waitingRelease = true) :
    exec .releaseMeasurementRestart s = .next s ∧ exec .lineReleased s = .next s :=
  ⟨congrArg Host.Outcome.next (State.restartMeasurement_of_not_waiting h), congrArg Host.Outcome.next (if_neg h)⟩

/-- A station that passes no rounds takes a stuck line as a dominant reading (R76, R87). -/
theorem State.stickLine_of_not_online {s : State} (h : ¬ s.online = true) : s.stickLine = s.restartMeasurement := if_neg h

/-- Settles O56, by the line state: rounds pass, the station waits for release, or it does neither. -/
theorem stuckAndReleasedLine : Obligations.StuckAndReleasedLine := by
  intro s
  refine ⟨fun ho hr => ?_, fun hl hw => ?_, fun h => ?_, fun ho => ?_⟩
  · refine congrArg Host.Outcome.next ((if_pos (State.online_of ho)).trans ?_)
    exact State.postLeaving_eq (by exact hr) _
  · have hwaiting : s.waitingRelease = true := s.waitingRelease_iff.2 ⟨hl, hw⟩
    have hrestart : s.restartMeasurement = { s with lu := { s.lu with recessiveTime := 0 } } := if_pos hwaiting
    have hoffline : ¬ s.online = true := State.not_online (by rw [hl]; decide)
    have hperiod : (s.post .lineReleased).roundPeriodMs = s.roundPeriodMs := State.roundPeriodMs_congr (State.post_config _ s)
    refine ⟨congrArg Host.Outcome.next hrestart, congrArg Host.Outcome.next ((State.stickLine_of_not_online hoffline).trans hrestart),
      congrArg Host.Outcome.next ?_⟩
    rw [State.releaseLine, if_pos hwaiting]
    dsimp only
    rw [hperiod]
    rfl
  · have hwaiting : ¬ s.waitingRelease = true := by
      rw [s.waitingRelease_iff]
      rintro ⟨hl, hw⟩
      rcases h with h | h | ⟨-, h⟩
      · rw [h] at hl; exact LineState.noConfusion hl
      · rw [h] at hl; exact LineState.noConfusion hl
      · rw [h] at hw; exact Bool.noConfusion hw
    have hoffline : ¬ s.online = true := State.not_online (by rcases h with h | h | ⟨h, -⟩ <;> rw [h] <;> decide)
    obtain ⟨hrestart, hrelease⟩ := exec_release_of_not_waiting hwaiting
    exact ⟨hrestart, (congrArg Host.Outcome.next (State.stickLine_of_not_online hoffline)).trans hrestart, hrelease⟩
  · have hwaiting : ¬ s.waitingRelease = true := by
      rw [s.waitingRelease_iff]
      rintro ⟨hl, -⟩
      rcases ho with ho | ho <;> rw [ho] at hl <;> exact LineState.noConfusion hl
    exact exec_release_of_not_waiting hwaiting

end Sys2Proof.Machine
end

section
/-! SUPPORT. The round end, part by part: what evidence reads of the table, the outcome of one address, the admission step. -/

namespace Sys2Proof.Machine

/-! ### What evidence reads (R23, R25) -/

/-- What evidence reads of an entry (R23, R25). -/
def Entry.standing (e : Entry) : Bool × Nat × HostState := (e.state.isMember, e.missCount, e.hostState)

/-- Evidence reads the standing of the entries, the host accusation set and the miss limit alone (R23). -/
theorem State.evidence_congr {s t : State} (he : ∀ a, (t.entry a).standing = (s.entry a).standing)
    (hs : t.vu.hostAccused = s.vu.hostAccused) (ha : t.hp.address = s.hp.address) (hc : t.hp.config = s.hp.config) (j : Addr) :
    t.evidence j = s.evidence j ∧ t.evidenceAt j = s.evidenceAt j := by
  have hown : t.own.standing = s.own.standing := by
    rw [State.own, State.own, State.ownAddr, State.ownAddr, ha, he]
  obtain ⟨hom, -, hoh⟩ := (by simpa only [Entry.standing, Prod.mk.injEq] using hown : _ ∧ _ ∧ _)
  obtain ⟨hjm, hjc, hjh⟩ := (by simpa only [Entry.standing, Prod.mk.injEq] using he j : _ ∧ _ ∧ _)
  have hlimit : t.missLimit = s.missLimit := by rw [State.missLimit, State.missLimit, State.cfg_congr hc]
  have hpeer : t.evidence j = s.evidence j := by
    rw [Bool.eq_iff_iff, State.evidence_iff, State.evidence_iff, ha, hs, hlimit, hom, hjm, hjc, hjh]
  have hself : t.selfEvidence = s.selfEvidence := by rw [State.selfEvidence, State.selfEvidence, hom, hoh]
  refine ⟨hpeer, ?_⟩
  rw [State.evidenceAt, State.evidenceAt, State.ownAddr, State.ownAddr, ha, hpeer, hself]

/-- Evidence against a member, peer or own, item by item (R23, R25). -/
theorem State.evidenceAt_iff {s : State} {j : Addr} (hm : (s.entry j).state.isMember = true) : s.evidenceAt j = true ↔
    s.own.state.isMember = true ∧ ((s.entry j).hostState = .lapsed ∨ (s.entry j).hostState = .fault ∨
      (j ≠ s.hp.address ∧ (s.missLimit ≤ (s.entry j).missCount ∨ inSet j s.vu.hostAccused = true))) := by
  unfold State.evidenceAt
  split
  · next hj =>
    have hself : ¬ j ≠ s.hp.address := not_not.2 hj
    rw [State.selfEvidence, Bool.and_eq_true, HostState.isFailing_iff, State.own, ← hj]
    simp only [hself, false_and, or_false]
  · next hj =>
    have hpeer : j ≠ s.hp.address := hj
    rw [State.evidence_iff]
    simp only [hpeer, hm, ne_eq, not_false_eq_true, true_and]
    tauto

/-! ### The outcome of one address (R36 to R42) -/

/-- A CONDEMN outcome for a peer that is a member, as one record (R37, R44). -/
theorem State.condemnPeer_eq (j : Addr) (s : State) : s.condemnPeer j = { s with
    vu := { (s.setEntry j { s.entry j with state := .recovering, admission := none, missCount := 0, splits := 0 }).vu with
      hostAccused := eraseAddr j s.vu.hostAccused }
    hp := (s.post (.condemned j (s.accusers j))).hp } := by
  rw [State.condemnPeer, State.moveEntry_eq, Entry.moveTo_of_ne (by decide)]
  rfl

theorem State.attemptStarted_congr {s t : State} (hr : t.ru = s.ru) (hc : t.hp.config = s.hp.config) :
    t.attemptStarted = s.attemptStarted := by
  rw [State.attemptStarted, State.attemptStarted, State.pulseMs, State.pulseMs, State.cfg_congr hc, hr]

/-- A CONDEMN outcome at the own address, as one record (R38). -/
theorem State.condemnOwn_eq (s : State) : s.condemnOwn = { s with
    vu := { (s.setEntry s.hp.address { s.own with state := .recovering, admission := none, splits := 0 }).vu with hostAccused := 0 }
    pt := s.pt.disarmed
    ru := s.attemptStarted
    cm := { s.cm with service := 0 }
    hp := (s.postAll [.condemned s.hp.address (s.accusers s.hp.address), .attemptStart (s.ru.attempt + 1)]).hp } := by
  have hentry : s.condemnOwn.vu =
      { (s.setEntry s.hp.address { s.own with state := .recovering, admission := none, splits := 0 }).vu with hostAccused := 0 } := by
    rw [State.condemnOwn, State.modifyEntry, Entry.moveTo_of_ne (by decide)]
    rfl
  have hattempt : (s.post (.condemned s.hp.address (s.accusers s.hp.address))).attemptStarted = s.attemptStarted :=
    State.attemptStarted_congr rfl (State.post_config _ s)
  exact State.ext_blocks rfl hentry rfl hattempt rfl s.condemnOwn_hp rfl rfl

/-- A suspicion of a member leaves it SUSPECT, and posts where it was MEMBER (R40). -/
theorem State.suspect_of_isMember {s : State} {j : Addr} (hm : (s.entry j).state.isMember = true) (c : SuspectCause) :
    s.suspect j c = (s.postAll (eventIf ((s.entry j).state = .member) (.suspected j c))).setEntry j { s.entry j with
      state := .suspect, admission := if (s.entry j).state = .member then none else (s.entry j).admission } := by
  rw [State.postAll_eventIf]
  by_cases h : (s.entry j).state = .member
  · have hput := State.suspect_setEntry h s j c
    rw [State.setEntry_entry] at hput
    rw [if_pos h, if_pos h, hput]
  · have hs : (s.entry j).state = .suspect := by
      cases hstate : (s.entry j).state <;> simp_all [EntryState.isMember]
    have hsame : s.suspect j c = s := (State.suspect_eq j c s).trans (if_neg h)
    rw [if_neg h, if_neg h, hsame, ← hs]
    exact (State.setEntry_entry s j).symm

/-- A SPLIT outcome for a member, as one record (R40). -/
theorem State.splitEntry_eq {s : State} {j : Addr} (hm : (s.entry j).state.isMember = true) : s.splitEntry j =
    let n := satAdd Config.splitsMax (s.entry j).splits
    { s with
      vu := (s.setEntry j { s.entry j with
        state := .suspect, splits := n, admission := if (s.entry j).state = .member then none else (s.entry j).admission }).vu
      hp := (s.postAll (eventIf ((s.entry j).state = .member) (.suspected j .split) ++ [.split j n])).hp } := by
  rw [State.splitEntry, State.suspect_of_isMember hm, State.modifyEntry_setEntry]
  dsimp only
  rw [State.entry_setEntry, if_pos rfl, State.setEntry_postAll, State.postAll_append, State.postAll_eq]
  rfl

/-- After a CLEAR or NONE outcome the run of splits is over, and a SUSPECT entry without accuser and evidence is cleared (R41, R42). -/
theorem State.endSplits_clearEntry (s : State) (j : Addr) : (s.endSplits j).clearEntry j =
    if (s.entry j).state = .suspect ∧ s.accusers j = 0 ∧ s.evidenceAt j = false then
      { s with
        vu := (s.setEntry j { s.entry j with state := .member, admission := none, splits := 0 }).vu
        hp := (s.post (.cleared j)).hp }
    else s.setEntry j { s.entry j with splits := 0 } := by
  have hput : s.endSplits j = s.setEntry j { s.entry j with splits := 0 } := rfl
  have hentry : (s.endSplits j).entry j = { s.entry j with splits := 0 } := by rw [hput, State.entry_setEntry, if_pos rfl]
  have hevidence : (s.endSplits j).evidenceAt j = s.evidenceAt j := by
    refine (State.evidence_congr (s := s) (t := s.endSplits j) (fun a => ?_) rfl rfl rfl j).2
    rw [hput, State.entry_setEntry]
    split
    · next h => rw [h]; rfl
    · rfl
  rw [State.clearEntry, hentry, hevidence, hput]
  refine if_congr Iff.rfl ?_ rfl
  rw [State.modifyEntry_setEntry, Entry.moveTo_of_ne (by decide)]
  rfl

theorem State.applyVerdict_condemn {c k : AddrSet} {j : Addr} (hc : inSet j c = true) (hk : inSet j k = false) (s : State) :
    s.applyVerdict c k j =
      if (s.entry j).state.isMember then if j = s.ownAddr then s.condemnOwn else s.condemnPeer j else s.endSplits j := by
  rw [State.applyVerdict, verdictOf, hc, hk]

theorem State.applyVerdict_split {c k : AddrSet} {j : Addr} (hc : inSet j c = true) (hk : inSet j k = true) (s : State) :
    s.applyVerdict c k j = if (s.entry j).state.isMember then s.splitEntry j else s := by
  rw [State.applyVerdict, verdictOf, hc, hk]

theorem State.applyVerdict_spared {c : AddrSet} {j : Addr} (hc : inSet j c = false) (k : AddrSet) (s : State) :
    s.applyVerdict c k j = (s.endSplits j).clearEntry j := by
  rw [State.applyVerdict, verdictOf, hc]
  cases inSet j k <;> rfl

/-- Settles O52, by the outcome read from the two positions of the address. -/
theorem verdictApplied : Obligations.VerdictApplied := by
  intro s condemn clear j after e
  refine ⟨fun hc hk => ?_, fun hc hk => ?_, fun hc => ?_⟩
  · have hafter : after = _ := State.applyVerdict_condemn hc hk s
    refine ⟨fun hm => ?_, fun hm hj => ?_, fun hm hj => ?_⟩
    · rw [hafter, if_neg (Bool.eq_false_iff.1 hm)]
      rfl
    · rw [hafter, if_pos (by exact hm), if_neg (by exact hj), State.condemnPeer_eq]
      rfl
    · subst hj
      rw [hafter, if_pos (by exact hm), if_pos (by rfl), State.condemnOwn_eq]
      rfl
  · have hafter : after = _ := State.applyVerdict_split hc hk s
    refine ⟨fun hm => ?_, fun hm => ?_⟩
    · rw [hafter, if_neg (Bool.eq_false_iff.1 hm)]
    · exact hafter.trans ((if_pos hm).trans (State.splitEntry_eq hm))
  · have hafter : after = _ := (State.applyVerdict_spared hc clear s).trans (State.endSplits_clearEntry s j)
    rw [hafter]
    have hread (hs : e.state = .suspect) := State.evidenceAt_iff (s := s) (j := j) (by rw [show (s.entry j).state = _ from hs]; rfl)
    refine ⟨fun hs ht hn => ?_, fun h => ?_⟩
    · have hnone : s.evidenceAt j = false := by
        rw [Bool.eq_false_iff, Ne, hread hs]
        exact hn
      exact if_pos ⟨hs, ht, hnone⟩
    · refine if_neg ?_
      rintro ⟨hs, ht, hn⟩
      rw [Bool.eq_false_iff, Ne, hread hs] at hn
      exact h.elim (· hs) (·.elim (· ht) hn)

/-! ### The admission step (R54, R55) -/

/-- A suspicion is no evidence against anybody (R23). -/
theorem State.evidence_suspect (b : Addr) (c : SuspectCause) (s : State) (j : Addr) : (s.suspect b c).evidence j = s.evidence j := by
  have hset : (s.suspect b c).vu.hostAccused = s.vu.hostAccused := by
    rw [State.suspect_eq]
    split <;> rfl
  refine (State.evidence_congr (fun a => ?_) hset (by simp) (by simp) j).1
  rw [State.entry_suspect]
  split
  · next h => rw [h.1, Entry.moveTo_of_ne (by decide), Entry.standing, Entry.standing, h.2]; rfl
  · rfl

/-- Tests for evidence one after another do not disturb each other (R27). -/
theorem State.foldl_testEvidence (p : Addr → Bool) (l : List Addr) (s : State) (hp : ∀ j, s.evidence j = p j) :
    l.foldl (fun t j => t.testEvidence j) s = l.foldl (fun t j => if p j then t.suspect j .evidence else t) s := by
  induction l generalizing s with
  | nil => rfl
  | cons b l ih =>
    rw [List.foldl_cons, List.foldl_cons, State.testEvidence, hp b]
    refine ih _ fun j => ?_
    split
    · rw [State.evidence_suspect, hp]
    · exact hp j

/-- The part once its own admission has been taken and posted, before the evidence tests (R55, R97). -/
def State.admitted (i : Byte) (s : State) : State :=
  { s with
    vu := (s.setEntry s.hp.address { s.own with state := .member, admission := none }).vu
    pt := { state := .running, remaining := s.promptPeriod, expected := 1, warn := false }
    hp := (s.post (.joinDone i)).hp }

theorem State.completeAdmission_eq {s : State} {i : Byte} (hi : s.own.incarnation = some i) :
    s.completeAdmission = allAddrs.foldl (fun t j => t.testEvidence j) (s.admitted i) := by
  have hinc : (s.modifyEntry s.ownAddr (Entry.moveTo .member)).armTimer.ownIncarnation = i := by
    show (s.modifyEntry s.ownAddr (Entry.moveTo .member)).own.incarnation.getD 0 = i
    rw [State.own_modifyEntry_own, Entry.moveTo_incarnation, hi]
    rfl
  rw [State.completeAdmission, hinc, State.modifyEntry, Entry.moveTo_of_ne (by decide)]
  rfl

theorem State.admitted_entry (i : Byte) (s : State) (j : Addr) :
    (s.admitted i).entry j = if j = s.hp.address then { s.own with state := .member, admission := none } else s.entry j :=
  State.entry_setEntry _ _ _ _

/-- The MEMBER peers that the admitted station finds evidence against (R23, R55). -/
theorem State.admitted_evidence {i : Byte} {s : State} {j : Addr} :
    (s.admitted i).namedMember (s.admitted i).evidence j = true ↔ j ≠ s.hp.address ∧ (s.entry j).state = .member ∧
      (s.missLimit ≤ (s.entry j).missCount ∨ (s.entry j).hostState = .lapsed ∨ (s.entry j).hostState = .fault ∨
        inSet j s.vu.hostAccused = true) := by
  have haddr : (s.admitted i).hp.address = s.hp.address := State.post_address _ s
  have hlimit : (s.admitted i).missLimit = s.missLimit := by
    rw [State.missLimit, State.missLimit, State.cfg_congr (t := s.admitted i) (State.post_config _ s)]
  have hown : (s.admitted i).own.state.isMember = true := by
    rw [State.own, State.ownAddr, haddr, State.admitted_entry, if_pos rfl]
    rfl
  rw [State.namedMember_iff, State.evidence_iff, haddr, hlimit]
  by_cases hj : j = s.hp.address
  · exact iff_of_false (fun h => h.1.1 hj) (fun h => h.1 hj)
  · rw [State.admitted_entry, if_neg hj]
    refine ⟨fun ⟨⟨_, _, _, he⟩, hm⟩ => ⟨hj, hm, he⟩, fun ⟨_, hm, he⟩ => ⟨⟨hj, hown, by rw [hm]; rfl, he⟩, hm⟩⟩

theorem LineUnit.joinWentOut_iff (l : LineUnit) : l.joinWentOut = true ↔
    l.ownWhole = true ∧ ∃ fr, l.ownFrame = some fr ∧ fr.kind = .join := by
  rw [LineUnit.joinWentOut]
  cases l.ownFrame with
  | none => simp
  | some fr => simp [and_comm]

/-- Settles O53, by the tests of R54 in their order; the last JOIN frame brings the folded evidence tests of R55. -/
theorem admissionStepTaken : Obligations.AdmissionStepTaken := by
  refine fun s => ⟨fun h => if_neg h, fun hj ha => ?_⟩
  have hstep : s.admissionStep = _ := if_pos hj
  rw [hstep, ← LineUnit.joinWentOut_iff]
  refine ⟨fun hf => ?_, fun hf hw => ?_, fun n hf hw hn hlt => ?_, fun i hf hw hn hi => ?_⟩
  · have hgone : s.own.moveTo .absent = s.own.gone := Entry.moveTo_absent_eq_gone (by rw [hj]; decide)
    rw [if_pos hf, State.moveEntry_eq, show s.entry s.ownAddr = s.own from rfl, hgone]
    rw [if_neg (by exact Bool.noConfusion), eraseAddr_of_not_inSet s.ownAddr _ ha]
    rfl
  · rw [if_neg (Bool.eq_false_iff.1 hf), if_neg hw]
  · rw [if_neg (Bool.eq_false_iff.1 hf), if_pos hw, hn]
    exact if_neg (Nat.not_le.2 hlt)
  · intro evidence t
    have ht : t = allAddrs.foldl (fun t j => if (s.admitted i).evidence j then t.suspect j .evidence else t) (s.admitted i) := by
      show (if s.vu.foreignMark = true then _ else _) = _
      rw [if_neg (Bool.eq_false_iff.1 hf), if_pos hw, hn, ← State.foldl_testEvidence _ _ _ fun _ => rfl, ← State.completeAdmission_eq hi]
      exact if_pos le_rfl
    obtain ⟨hrec, hentry⟩ := State.foldl_suspect .evidence (s.admitted i).evidence allAddrs allAddrs_nodup (s.admitted i)
    rw [← ht] at hrec hentry
    have hnamed (j : Addr) : (s.admitted i).namedMember (s.admitted i).evidence j = decide (evidence j) :=
      Bool.eq_iff_iff.2 (State.admitted_evidence.trans (decide_eq_true_iff).symm)
    have hout (j : Addr) : t.entry j = if evidence j then _ else (s.admitted i).entry j :=
      (hentry j).trans (if_congr (by rw [hnamed, decide_eq_true_iff]; exact and_iff_right (mem_allAddrs j)) rfl rfl)
    have haddr : t.hp.address = s.hp.address := by
      rw [hrec]
      exact (State.postAll_address _ _).trans (State.post_address _ s)
    refine ⟨hrec.trans ?_, ?_, fun j hjne => ?_⟩
    · rw [List.filter_congr fun j _ => hnamed j,
        State.postAll_frame (x := s.admitted i) (y := s.post (.joinDone i)) rfl rfl]
      rfl
    · rw [State.own, State.ownAddr, haddr, hout, if_neg (fun h => h.1 rfl), State.admitted_entry, if_pos rfl]
    · rw [hout, State.admitted_entry, if_neg hjne]

end Sys2Proof.Machine
end

section
/-! SUPPORT. The round end as a whole: what the work at one address leaves of the others, what a CONDEMN outcome leaves at the end of the work, and
the order of the work and of a requested release. -/

namespace Sys2Proof.Machine

/-! ### The work at one address (R36) -/

/-- What the work at an address leaves of the others: their entries, the addresses that stand unaccused, the setup. -/
structure WorkAt (a : Addr) (s t : State) : Prop where
  others : ∀ b, b ≠ a → t.entry b = s.entry b
  unaccused : ∀ b, inSet b s.vu.hostAccused = false → inSet b t.vu.hostAccused = false
  address : t.hp.address = s.hp.address
  config : t.hp.config = s.hp.config

theorem WorkAt.refl (a : Addr) (s : State) : WorkAt a s s := ⟨fun _ _ => rfl, fun _ h => h, rfl, rfl⟩

theorem WorkAt.trans {a : Addr} {r s t : State} (h : WorkAt a r s) (k : WorkAt a s t) : WorkAt a r t :=
  ⟨fun b hb => (k.others b hb).trans (h.others b hb), fun b hb => k.unaccused b (h.unaccused b hb), k.address.trans h.address,
   k.config.trans h.config⟩

theorem WorkAt.ite {a : Addr} {s t u : State} {p : Prop} [Decidable p] (ht : p → WorkAt a s t) (hu : ¬ p → WorkAt a s u) :
    WorkAt a s (if p then t else u) := by
  split
  · next h => exact ht h
  · next h => exact hu h

theorem WorkAt.post (a : Addr) (e : Event) (s : State) : WorkAt a s (s.post e) :=
  ⟨fun b _ => s.entry_post e b, fun _ h => h, s.post_address e, s.post_config e⟩

theorem WorkAt.modifyEntry (a : Addr) (f : Entry → Entry) (s : State) : WorkAt a s (s.modifyEntry a f) :=
  ⟨fun b hb => (s.entry_modifyEntry a b f).trans (if_neg hb), fun _ h => h, rfl, rfl⟩

theorem WorkAt.moveEntry (a : Addr) (f : Entry → Entry) (s : State) : WorkAt a s (s.moveEntry a f) :=
  ⟨fun b hb => (s.entry_moveEntry a b f).trans (if_neg hb), fun _ h => State.inSet_hostAccused_moveEntry h,
   s.moveEntry_address a f, by rw [State.moveEntry_hp]⟩

theorem WorkAt.armTimer (a : Addr) (s : State) : WorkAt a s s.armTimer := ⟨fun _ _ => rfl, fun _ h => h, rfl, rfl⟩

theorem WorkAt.suspect (a : Addr) (c : SuspectCause) (s : State) : WorkAt a s (s.suspect a c) :=
  .ite (fun _ => (WorkAt.modifyEntry a _ s).trans (.post a _ _)) (fun _ => .refl a s)

theorem WorkAt.testEvidence (a : Addr) (s : State) : WorkAt a s (s.testEvidence a) :=
  .ite (fun _ => .suspect a _ s) (fun _ => .refl a s)

/-- Step 1 at an address (R10). -/
theorem WorkAt.accountMiss (a : Addr) (s : State) : WorkAt a s (s.accountMiss a) := by
  refine .ite (fun _ => .refl a s) (fun _ => (WorkAt.modifyEntry a _ s).trans (.ite (fun _ => .refl a _) (fun _ => ?_)))
  generalize s.modifyEntry a (fun e => { e with missCount := satAdd Config.missMax e.missCount }) = x
  have gone (e : Event) : WorkAt a x ((x.moveEntry a (Entry.moveTo .absent)).post e) := (WorkAt.moveEntry a _ x).trans (.post a e _)
  cases (x.entry a).state with
  | recovering => exact gone _
  | joining => exact gone _
  | member => exact .testEvidence a x
  | suspect => exact .testEvidence a x
  | absent => exact .testEvidence a x

theorem WorkAt.condemnOwn (s : State) : WorkAt s.hp.address s s.condemnOwn := by
  refine ⟨fun b hb => ?_, fun b _ => ?_, s.condemnOwn_address, s.condemnOwn_config⟩
  · rw [State.condemnOwn_eq]
    exact (State.entry_setEntry _ _ _ s).trans (if_neg hb)
  · rw [State.condemnOwn_eq]
    exact inSet_zero b

/-- Step 2 at an address (R37 to R42). -/
theorem WorkAt.applyVerdict (c k : AddrSet) (a : Addr) (s : State) : WorkAt a s (s.applyVerdict c k a) := by
  have ended : WorkAt a s (s.endSplits a) := .modifyEntry a _ s
  have cleared (x : State) : WorkAt a x (x.clearEntry a) :=
    .ite (fun _ => (WorkAt.modifyEntry a _ x).trans (.post a _ _)) (fun _ => .refl a x)
  have condemned : WorkAt a s (if a = s.ownAddr then s.condemnOwn else s.condemnPeer a) := by
    refine .ite (fun h => ?_) (fun _ => (WorkAt.moveEntry a _ s).trans (.post a _ _))
    rw [h]
    exact .condemnOwn s
  unfold State.applyVerdict
  cases verdictOf c k a with
  | none => exact ended.trans (cleared _)
  | clear => exact ended.trans (cleared _)
  | split => exact .ite (fun _ => ((WorkAt.suspect a _ s).trans (.modifyEntry a _ _)).trans (.post a _ _)) (fun _ => .refl a s)
  | condemn => exact .ite (fun _ => condemned) (fun _ => ended)

/-- Step 2 at a peer's address leaves the Prompt Timer, the Reset Unit and the Condition Monitor alone (R37). -/
theorem State.applyVerdict_peer {s : State} {a : Addr} (ha : a ≠ s.hp.address) (c k : AddrSet) :
    (s.applyVerdict c k a).pt = s.pt ∧ (s.applyVerdict c k a).ru = s.ru ∧ (s.applyVerdict c k a).cm = s.cm := by
  unfold State.applyVerdict
  cases verdictOf c k a with
  | none => simp
  | clear => simp
  | split => dsimp only; split <;> simp
  | condemn =>
    dsimp only
    rw [if_neg (show ¬ a = s.ownAddr from ha)]
    split <;> simp

/-- A property that stands before the step at one address and another that stands after it, each kept by the steps at the others. -/
theorem foldl_passes {α β : Type} {P Q : β → Prop} {f : β → α → β} {a : α} (before : ∀ t b, b ≠ a → P t → P (f t b))
    (passes : ∀ t, P t → Q (f t a)) (after : ∀ t b, b ≠ a → Q t → Q (f t b)) {l : List α} (hl : l.Nodup) (ha : a ∈ l) {x : β}
    (hx : P x) : Q (l.foldl f x) := by
  induction l generalizing x with
  | nil => cases ha
  | cons b l ih =>
    obtain ⟨hb, hl⟩ := List.nodup_cons.1 hl
    rw [List.foldl_cons]
    by_cases h : b = a
    · subst h
      exact List.foldlRecOn l f (passes x hx) fun t ht c hc => after t c (fun h => hb (h ▸ hc)) ht
    · exact ih hl ((List.mem_cons.1 ha).resolve_left (Ne.symm h)) (before x b h hx)

/-! ### A condemned peer (R37) -/

/-- The entry of a peer after a CONDEMN outcome (R37). -/
def Entry.condemned (e : Entry) : Entry := { e with state := .recovering, admission := none, missCount := 0, splits := 0 }

/-- A member that a CONDEMN outcome would take to the entry `x`. -/
def Entry.FacesEnd (x e : Entry) : Prop := e.state.isMember = true ∧ e.condemned = x

theorem Entry.FacesEnd.missed {x e : Entry} (h : x.FacesEnd e) (n : Nat) : x.FacesEnd { e with missCount := n } := h

theorem Entry.FacesEnd.suspected {x e : Entry} (h : x.FacesEnd e) : x.FacesEnd (e.moveTo .suspect) := by
  rw [Entry.moveTo_of_ne (by decide)]
  exact ⟨rfl, h.2⟩

theorem Entry.FacesEnd.testEvidence {x : Entry} {s : State} {j : Addr} (h : x.FacesEnd (s.entry j)) :
    x.FacesEnd ((s.testEvidence j).entry j) := by
  rw [State.entry_testEvidence]
  split
  · exact h.suspected
  · exact h

/-- The misses of a member change nothing in what a CONDEMN outcome makes of it (R10, R37). -/
theorem Entry.FacesEnd.accountMiss {x : Entry} {s : State} {j : Addr} (h : x.FacesEnd (s.entry j)) :
    x.FacesEnd ((s.accountMiss j).entry j) := by
  unfold State.accountMiss
  split
  · exact h
  · generalize hu : s.modifyEntry j (fun e => { e with missCount := satAdd Config.missMax e.missCount }) = u
    have hmissed : x.FacesEnd (u.entry j) := by
      rw [← hu, State.entry_modifyEntry, if_pos rfl]
      exact h.missed _
    have hmember := hmissed.1
    dsimp only
    split
    · exact hmissed
    · cases hstate : (u.entry j).state with
      | recovering => rw [hstate] at hmember; cases hmember
      | joining => rw [hstate] at hmember; cases hmember
      | member => exact hmissed.testEvidence
      | suspect => exact hmissed.testEvidence
      | absent => exact hmissed.testEvidence

/-- A peer's entry that a CONDEMN outcome would take to `x`. -/
structure BeforeEnd (j : Addr) (x : Entry) (s : State) : Prop where
  peer : j ≠ s.hp.address
  faces : x.FacesEnd (s.entry j)

/-- A peer's entry that is `x`, with no accusation of the own host left (R44). -/
structure AfterEnd (j : Addr) (x : Entry) (s : State) : Prop where
  peer : j ≠ s.hp.address
  entry : s.entry j = x
  unaccused : inSet j s.vu.hostAccused = false

theorem BeforeEnd.of_work {j a : Addr} {x : Entry} {s t : State} (h : BeforeEnd j x s) (hw : WorkAt a s t) (ha : a ≠ j) :
    BeforeEnd j x t :=
  ⟨by rw [hw.address]; exact h.peer, by rw [hw.others j ha.symm]; exact h.faces⟩

theorem AfterEnd.of_work {j a : Addr} {x : Entry} {s t : State} (h : AfterEnd j x s) (hw : WorkAt a s t) (ha : a ≠ j) :
    AfterEnd j x t :=
  ⟨by rw [hw.address]; exact h.peer, (hw.others j ha.symm).trans h.entry, hw.unaccused j h.unaccused⟩

theorem BeforeEnd.accountMiss {j : Addr} {x : Entry} {s : State} (h : BeforeEnd j x s) (a : Addr) : BeforeEnd j x (s.accountMiss a) := by
  by_cases ha : a = j
  · subst ha
    exact ⟨by rw [State.accountMiss_address]; exact h.peer, h.faces.accountMiss⟩
  · exact h.of_work (.accountMiss a s) ha

/-- The CONDEMN outcome of a member peer (R37, R44). -/
theorem BeforeEnd.applyVerdict {j : Addr} {x : Entry} {s : State} (h : BeforeEnd j x s) {c k : AddrSet} (hc : inSet j c = true)
    (hk : inSet j k = false) : AfterEnd j x (s.applyVerdict c k j) := by
  rw [State.applyVerdict_condemn hc hk, if_pos h.faces.1, if_neg (show ¬ j = s.ownAddr from h.peer)]
  refine ⟨by rw [State.condemnPeer_address]; exact h.peer, ?_, ?_⟩
  · rw [State.condemnPeer_eq]
    exact (State.entry_setEntry _ _ _ s).trans ((if_pos rfl).trans h.faces.2)
  · rw [State.condemnPeer_eq]
    exact (inSet_eraseAddr _ _ _).trans (by rw [beq_self_eq_true]; exact Bool.and_false _)

theorem AfterEnd.testEvidence {j : Addr} {x : Entry} (hx : x.state ≠ .member) {s : State} (h : AfterEnd j x s) (a : Addr) :
    AfterEnd j x (s.testEvidence a) := by
  by_cases ha : a = j
  · subst ha
    have hw := WorkAt.testEvidence a s
    refine ⟨by rw [hw.address]; exact h.peer, ?_, hw.unaccused a h.unaccused⟩
    rw [State.entry_testEvidence, if_neg (fun hc => hx (h.entry ▸ hc.2.1)), h.entry]
  · exact h.of_work (.testEvidence a s) ha

/-- The admission step leaves a peer that is no MEMBER (R54, R55). -/
theorem AfterEnd.admissionStep {j : Addr} {x : Entry} (hx : x.state ≠ .member) {s : State} (h : AfterEnd j x s) :
    AfterEnd j x s.admissionStep := by
  have hwork {t : State} (hw : WorkAt s.hp.address s t) : AfterEnd j x t := h.of_work hw h.peer.symm
  unfold State.admissionStep
  split
  · split
    · exact hwork ((WorkAt.moveEntry s.hp.address _ s).trans (.post _ _ _))
    · split
      · dsimp only
        split
        · have hadmitted : WorkAt s.hp.address s ((s.modifyEntry s.ownAddr (Entry.moveTo .member)).armTimer.post
              (.joinDone (s.modifyEntry s.ownAddr (Entry.moveTo .member)).armTimer.ownIncarnation)) :=
            ((WorkAt.modifyEntry _ _ s).trans (.armTimer _ _)).trans (.post _ _ _)
          exact foldl_keeps (AfterEnd j x) _ (fun t a ht => ht.testEvidence hx a) _ _ (hwork hadmitted)
        · exact hwork (.modifyEntry s.hp.address _ s)
      · exact h
  · exact h

/-- A member peer with a CONDEMN outcome is RECOVERING after the round end (R37, R44). -/
theorem State.roundEndWork_condemns_peer {s : State} {j : Addr} (hj : j ≠ s.hp.address) (hm : (s.entry j).state.isMember = true)
    (hc : inSet j s.lu.condemnField = true) (hk : inSet j s.lu.clearField = false) (resynced : Bool) :
    AfterEnd j (s.entry j).condemned (s.roundEndWork resynced) := by
  have hbefore : BeforeEnd j (s.entry j).condemned s := ⟨hj, hm, rfl⟩
  have hmissed : BeforeEnd j (s.entry j).condemned (if resynced then s else allAddrs.foldl (fun t j => t.accountMiss j) s) := by
    split
    · exact hbefore
    · exact foldl_keeps (BeforeEnd j _) _ (fun t a ht => ht.accountMiss a) _ _ hbefore
  exact AfterEnd.admissionStep EntryState.noConfusion (foldl_passes (fun t a ha ht => ht.of_work (.applyVerdict _ _ a t) ha)
    (fun t ht => ht.applyVerdict hc hk) (fun t a ha ht => ht.of_work (.applyVerdict _ _ a t) ha) allAddrs_nodup (mem_allAddrs j) hmissed)

/-! ### A condemned own entry (R38) -/

/-- A part whose own entry, Prompt Timer and Reset Unit are those of `s`. -/
structure OwnStands (s t : State) : Prop where
  own : t.own = s.own
  address : t.hp.address = s.hp.address
  config : t.hp.config = s.hp.config
  pt : t.pt = s.pt
  ru : t.ru = s.ru

/-- A part that stands as the own CONDEMN outcome of `s` leaves it (R38). -/
structure OwnCondemned (s t : State) : Prop where
  own : t.own = { s.own with state := .recovering, admission := none, splits := 0 }
  address : t.hp.address = s.hp.address
  pt : t.pt = s.pt.disarmed
  accused : t.vu.hostAccused = 0
  service : t.cm.service = 0
  ru : t.ru = s.attemptStarted

theorem WorkAt.own {a : Addr} {s t : State} (h : WorkAt a s t) (ha : a ≠ s.hp.address) : t.own = s.own := by
  rw [State.own, State.ownAddr, h.address]
  exact h.others _ ha.symm

theorem OwnStands.accountMiss {s t : State} (h : OwnStands s t) (a : Addr) : OwnStands s (t.accountMiss a) := by
  by_cases ha : a = t.hp.address
  · rw [State.accountMiss, if_pos (.inl ha)]
    exact h
  · have hw := WorkAt.accountMiss a t
    exact ⟨(hw.own ha).trans h.own, hw.address.trans h.address, hw.config.trans h.config, by rw [State.accountMiss_pt, h.pt],
      by rw [State.accountMiss_ru, h.ru]⟩

theorem OwnStands.applyVerdict_peer {s t : State} (h : OwnStands s t) (c k : AddrSet) {a : Addr} (ha : a ≠ s.hp.address) :
    OwnStands s (t.applyVerdict c k a) := by
  have hpeer : a ≠ t.hp.address := by rwa [h.address]
  have hw := WorkAt.applyVerdict c k a t
  obtain ⟨hpt, hru, -⟩ := State.applyVerdict_peer hpeer c k
  exact ⟨(hw.own hpeer).trans h.own, hw.address.trans h.address, hw.config.trans h.config, hpt.trans h.pt, hru.trans h.ru⟩

theorem OwnCondemned.applyVerdict_peer {s t : State} (h : OwnCondemned s t) (c k : AddrSet) {a : Addr} (ha : a ≠ s.hp.address) :
    OwnCondemned s (t.applyVerdict c k a) := by
  have hpeer : a ≠ t.hp.address := by rwa [h.address]
  have hw := WorkAt.applyVerdict c k a t
  obtain ⟨hpt, hru, hcm⟩ := State.applyVerdict_peer hpeer c k
  have haccused : (t.applyVerdict c k a).vu.hostAccused = 0 := addrSet_ext fun b => by
    rw [inSet_zero]
    exact hw.unaccused b (by rw [h.accused, inSet_zero])
  exact ⟨(hw.own hpeer).trans h.own, hw.address.trans h.address, hpt.trans h.pt, haccused, by rw [hcm, h.service], hru.trans h.ru⟩

/-- The own CONDEMN outcome of a member (R38). -/
theorem OwnStands.applyVerdict_own {s t : State} (h : OwnStands s t) (hm : s.own.state.isMember = true) {c k : AddrSet}
    (hc : inSet s.hp.address c = true) (hk : inSet s.hp.address k = false) : OwnCondemned s (t.applyVerdict c k s.hp.address) := by
  have hmember : (t.entry t.hp.address).state.isMember = true := by
    show t.own.state.isMember = true
    rw [h.own, hm]
  rw [← h.address] at hc hk ⊢
  rw [State.applyVerdict_condemn hc hk, if_pos hmember, if_pos (show t.hp.address = t.ownAddr from rfl)]
  refine ⟨?_, t.condemnOwn_address.trans h.address, ?_, ?_, ?_, ?_⟩
  · rw [← h.own, State.own, State.ownAddr, State.condemnOwn_address, State.condemnOwn_eq]
    exact (State.entry_setEntry _ _ _ t).trans (if_pos rfl)
  · rw [State.condemnOwn_eq, ← h.pt]
  · rw [State.condemnOwn_eq]
  · rw [State.condemnOwn_eq]
  · rw [State.condemnOwn_eq]
    exact State.attemptStarted_congr h.ru h.config

/-- An own entry condemned as a member is RECOVERING after the round end, and its host's first reset has begun (R38). -/
theorem State.roundEndWork_condemns_own {s : State} (hm : s.own.state.isMember = true)
    (hc : inSet s.hp.address s.lu.condemnField = true) (hk : inSet s.hp.address s.lu.clearField = false) (resynced : Bool) :
    OwnCondemned s (s.roundEndWork resynced) := by
  have hstands : OwnStands s s := ⟨rfl, rfl, rfl, rfl, rfl⟩
  have hmissed : OwnStands s (if resynced then s else allAddrs.foldl (fun t j => t.accountMiss j) s) := by
    split
    · exact hstands
    · exact foldl_keeps (OwnStands s) _ (fun t a ht => ht.accountMiss a) _ _ hstands
  have hcondemned := foldl_passes (P := OwnStands s) (Q := OwnCondemned s)
    (f := fun t j => t.applyVerdict s.lu.condemnField s.lu.clearField j) (fun t a ha ht => ht.applyVerdict_peer _ _ ha)
    (fun t ht => ht.applyVerdict_own hm hc hk) (fun t a ha ht => ht.applyVerdict_peer _ _ ha) allAddrs_nodup
    (mem_allAddrs s.hp.address) hmissed
  rw [State.roundEndWork, State.admissionStep, if_neg (by rw [hcondemned.own]; exact EntryState.noConfusion)]
  exact hcondemned

/-! ### The order of the round end (R36, R90, R119) -/

/-- The round-end work ends in no release: the Reset Unit is left as it was, or a first attempt has started (R38). -/
theorem State.roundEndWork_ru (s : State) (resynced : Bool) :
    (s.roundEndWork resynced).ru = s.ru ∨ (s.roundEndWork resynced).ru.state = .pulsing := by
  rw [State.roundEndWork, State.admissionStep_ru]
  refine foldl_keeps (fun t : State => t.ru = s.ru ∨ t.ru.state = .pulsing) _ (fun t a ht => ?_) _ _ (.inl ?_)
  · by_cases ha : a = t.hp.address
    · unfold State.applyVerdict
      cases verdictOf s.lu.condemnField s.lu.clearField a with
      | none => simpa using ht
      | clear => simpa using ht
      | split => dsimp only; split <;> simpa using ht
      | condemn =>
        dsimp only
        split
        · rw [if_pos (by exact ha), State.condemnOwn_eq]
          exact .inr rfl
        · exact ht
    · obtain ⟨-, hru, -⟩ := State.applyVerdict_peer ha s.lu.condemnField s.lu.clearField
      rwa [hru]
  · split
    · rfl
    · exact foldl_keeps (fun t : State => t.ru = s.ru) _ (fun t a ht => by rw [State.accountMiss_ru, ht]) _ _ rfl

theorem State.releaseIfRequested_of_not_due {s : State} (h : ¬ (s.ru.state = .held ∧ s.ru.releaseRequested = true)) :
    s.releaseIfRequested = s := if_neg h

/-- Where no release is due before the work, none is after it (R119). -/
theorem State.roundEndWork_not_due {s : State} (h : ¬ (s.ru.state = .held ∧ s.ru.releaseRequested = true)) (resynced : Bool) :
    (s.roundEndWork resynced).releaseIfRequested = s.roundEndWork resynced := by
  refine State.releaseIfRequested_of_not_due ?_
  rcases s.roundEndWork_ru resynced with hr | hr
  · rwa [hr]
  · rw [hr]
    exact fun hc => ResetState.noConfusion hc.1

/-- The part once the verdict field is over and sampled (R91, R92). -/
def State.fieldSampled (condemn clear : AddrSet) (s : State) : State :=
  { s with lu := { s.lu with
      pos := .rest, driving := .nothing, condemnField := s.lu.condemnDrive ||| condemn, clearField := s.lu.clearDrive ||| clear } }

/-- The three orders of the round end, as the free values choose (R36, R90, R119). -/
theorem State.endRound_eq {s : State} (ho : s.online = true) (hp : s.lu.pos = .verdict) (condemn clear : AddrSet) :
    s.endRound condemn clear =
      let x := s.fieldSampled condemn clear
      let resynced := x.lu.resyncNumber.isSome
      let y := if x.releaseDue && Config.releaseBeforeResync then x.releaseIfRequested.resync else x.resync
      if y.releaseDue && Config.releaseBeforeRoundEndWork then y.releaseIfRequested.roundEndWork resynced
      else (y.roundEndWork resynced).releaseIfRequested := if_pos ⟨ho, hp⟩

theorem State.releaseDue_of_not_due {s : State} (h : ¬ (s.ru.state = .held ∧ s.ru.releaseRequested = true)) : s.releaseDue = false := by
  rwa [Bool.eq_false_iff, Ne, s.releaseDue_iff]

/-- The round end where no release is due: the check, then the work (R36, R90). -/
theorem State.endRound_of_not_due {s : State} (ho : s.online = true) (hp : s.lu.pos = .verdict)
    (h : ¬ (s.ru.state = .held ∧ s.ru.releaseRequested = true)) (condemn clear : AddrSet) : s.endRound condemn clear =
      (s.fieldSampled condemn clear).resync.roundEndWork (s.fieldSampled condemn clear).lu.resyncNumber.isSome := by
  have hsampled : (s.fieldSampled condemn clear).releaseDue = false := State.releaseDue_of_not_due h
  have hchecked : ¬ ((s.fieldSampled condemn clear).resync.ru.state = .held ∧
      (s.fieldSampled condemn clear).resync.ru.releaseRequested = true) := by
    rw [State.resync_ru]
    exact h
  rw [State.endRound_eq ho hp]
  dsimp only
  rw [hsampled, Bool.false_and, if_neg Bool.false_ne_true, State.releaseDue_of_not_due hchecked, Bool.false_and,
    if_neg Bool.false_ne_true, State.roundEndWork_not_due hchecked]

/-- The round end that carries a requested release out: after the work, between the check and the work, or before the check (R119). -/
theorem State.endRound_of_due {s : State} (ho : s.online = true) (hp : s.lu.pos = .verdict) (ha : s.own.state = .absent)
    (h : s.ru.state = .held ∧ s.ru.releaseRequested = true) (condemn clear : AddrSet) :
    let x := s.fieldSampled condemn clear
    let resynced := x.lu.resyncNumber.isSome
    s.endRound condemn clear = (x.resync.roundEndWork resynced).releaseHost ∨
    s.endRound condemn clear = x.resync.releaseHost.roundEndWork resynced ∨
    s.endRound condemn clear = x.releaseHost.resync.roundEndWork resynced := by
  rw [State.endRound_eq ho hp]
  generalize hx : s.fieldSampled condemn clear = x
  have hru : x.ru = s.ru := by rw [← hx]; rfl
  have hown : x.resync.own.state = .absent := by rw [State.resync_own, ← hx]; exact ha
  have hdue : x.ru.state = .held ∧ x.ru.releaseRequested = true := by rwa [hru]
  have hlater : x.resync.ru.state = .held ∧ x.resync.ru.releaseRequested = true := by rwa [State.resync_ru]
  dsimp only
  cases Config.releaseBeforeResync with
  | true =>
    have hdone : ¬ (x.releaseHost.resync.ru.state = .held ∧ x.releaseHost.resync.ru.releaseRequested = true) := by
      rw [State.resync_ru]
      exact fun hc => ResetState.noConfusion hc.1
    rw [Bool.and_true, if_pos (x.releaseDue_iff.2 hdue), State.releaseIfRequested_of_due hdue, State.releaseDue_of_not_due hdone,
      Bool.false_and, if_neg Bool.false_ne_true, State.roundEndWork_not_due hdone]
    exact .inr (.inr rfl)
  | false =>
    rw [Bool.and_false, if_neg Bool.false_ne_true, x.resync.releaseDue_iff.2 hlater, Bool.true_and]
    split
    · rw [State.releaseIfRequested_of_due hlater]
      exact .inr (.inl rfl)
    · rw [State.releaseIfRequested_of_due (by rwa [State.roundEndWork_ru_of_absent hown])]
      exact .inl rfl

/-- A part in which the work of the round end of `s` may start: the table and the field stand as sampled, whatever the check and a release
have done before. -/
structure WorkStarts (s : State) (condemn clear : AddrSet) (x : State) : Prop where
  vu : x.vu = s.vu
  address : x.hp.address = s.hp.address
  condemnField : x.lu.condemnField = s.lu.condemnDrive ||| condemn
  clearField : x.lu.clearField = s.lu.clearDrive ||| clear

theorem WorkStarts.fieldSampled (s : State) (condemn clear : AddrSet) : WorkStarts s condemn clear (s.fieldSampled condemn clear) :=
  ⟨rfl, rfl, rfl, rfl⟩

theorem WorkStarts.resync {s x : State} {condemn clear : AddrSet} (h : WorkStarts s condemn clear x) :
    WorkStarts s condemn clear x.resync := by
  have hfield : x.resync.lu.condemnField = x.lu.condemnField ∧ x.resync.lu.clearField = x.lu.clearField := by
    unfold State.resync
    cases x.lu.resyncNumber with
    | none => exact ⟨rfl, rfl⟩
    | some n => exact ⟨rfl, rfl⟩
  exact ⟨x.resync_vu.trans h.vu, x.resync_address.trans h.address, hfield.1.trans h.condemnField, hfield.2.trans h.clearField⟩

theorem WorkStarts.releaseHost {s x : State} {condemn clear : AddrSet} (h : WorkStarts s condemn clear x) :
    WorkStarts s condemn clear x.releaseHost :=
  ⟨h.vu, x.releaseHost_address.trans h.address, h.condemnField, h.clearField⟩

/-- What the work leaves of the View Unit is what the round end leaves, wherever a release falls (R119). -/
theorem State.endRound_vu {s : State} (ho : s.online = true) (hp : s.lu.pos = .verdict)
    (ha : s.ru.state = .held ∧ s.ru.releaseRequested = true → s.own.state = .absent) (condemn clear : AddrSet) :
    ∃ x resynced, WorkStarts s condemn clear x ∧ (s.endRound condemn clear).vu = (State.roundEndWork resynced x).vu := by
  have hsampled := WorkStarts.fieldSampled s condemn clear
  by_cases hdue : s.ru.state = .held ∧ s.ru.releaseRequested = true
  · rcases State.endRound_of_due ho hp (ha hdue) hdue condemn clear with h | h | h
    · exact ⟨_, _, hsampled.resync, by rw [h]; rfl⟩
    · exact ⟨_, _, hsampled.resync.releaseHost, by rw [h]⟩
    · exact ⟨_, _, hsampled.releaseHost.resync, by rw [h]⟩
  · exact ⟨_, _, hsampled.resync, by rw [State.endRound_of_not_due ho hp hdue]⟩

/-- A member peer with a CONDEMN outcome is RECOVERING after the round end, wherever a release falls (R37, R44). -/
theorem State.endRound_condemns_peer {s : State} (ho : s.online = true) (hp : s.lu.pos = .verdict)
    (ha : s.ru.state = .held ∧ s.ru.releaseRequested = true → s.own.state = .absent) {condemn clear : AddrSet} {j : Addr}
    (hj : j ≠ s.hp.address) (hm : (s.entry j).state.isMember = true) (hc : inSet j (s.lu.condemnDrive ||| condemn) = true)
    (hk : inSet j (s.lu.clearDrive ||| clear) = false) :
    (s.endRound condemn clear).entry j = (s.entry j).condemned ∧ inSet j (s.endRound condemn clear).vu.hostAccused = false := by
  obtain ⟨x, resynced, hx, hvu⟩ := State.endRound_vu ho hp ha condemn clear
  have hentry : x.entry j = s.entry j := State.entry_of_vu hx.vu j
  have hafter := State.roundEndWork_condemns_peer (s := x) (j := j) (by rwa [hx.address]) (by rwa [hentry]) (by rwa [hx.condemnField])
    (by rwa [hx.clearField]) resynced
  exact ⟨(State.entry_of_vu hvu j).trans (hafter.entry.trans (by rw [hentry])), by rw [hvu]; exact hafter.unaccused⟩

/-- The work of a round end with the check's report as the number that was adopted, if one was (R36, R90). -/
theorem State.roundEndWork_eq (x : State) (adopted : Option Word16) : x.roundEndWork adopted.isSome =
    (allAddrs.foldl (fun t j => t.applyVerdict x.lu.condemnField x.lu.clearField j)
      (if adopted = none then allAddrs.foldl (fun t j => t.accountMiss j) x else x)).admissionStep := by
  cases adopted with
  | none => rw [if_pos rfl]; rfl
  | some n => rw [if_neg (Option.some_ne_none n)]; rfl

/-- Settles O54: the order by whether a release is due, then what the work leaves of a condemned peer and of a condemned own entry. -/
theorem roundEndWork : Obligations.RoundEndWork := by
  intro s condemn clear ready
  refine ⟨fun h => congrArg Host.Outcome.next (if_neg fun hc => h ⟨s.online_iff.1 hc.1, hc.2⟩), ?_⟩
  intro due hready habsent c k sampled numbered work released
  obtain ⟨hl, hp⟩ := hready
  have ho := State.online_of hl
  have hsampled : WorkStarts s condemn clear sampled := .fieldSampled s condemn clear
  have hwork {x : State} (hx : WorkStarts s condemn clear x) : x.roundEndWork sampled.lu.resyncNumber.isSome = work x := by
    rw [State.roundEndWork_eq, hx.condemnField, hx.clearField]
  have hreleased {x : State} (hx : x.ru = s.ru) : x.releaseHost = released x := by
    rw [State.releaseHost_eq, hx]
  have hnumbered : numbered.ru = s.ru := State.resync_ru sampled
  refine ⟨_, rfl, fun hdue => ?_, fun hdue => ?_, fun hdue => State.endRound_releases ho hp (habsent hdue) hdue condemn clear,
    fun j hj hm hc hk => State.endRound_condemns_peer ho hp habsent hj hm hc hk, fun hm hi hattempt hc hk => ?_⟩
  · exact (State.endRound_of_not_due ho hp hdue condemn clear).trans (hwork hsampled.resync)
  · have hown : numbered.own.state = .absent := (congrArg Entry.state (State.resync_own sampled)).trans (habsent hdue)
    have hru : (work numbered).ru = s.ru := by
      rw [← hwork hsampled.resync, State.roundEndWork_ru_of_absent hown, hnumbered]
    rcases State.endRound_of_due ho hp (habsent hdue) hdue condemn clear with h | h | h
    · exact .inl (h.trans ((congrArg State.releaseHost (hwork hsampled.resync)).trans (hreleased hru)))
    · exact .inr (.inl (h.trans ((hwork hsampled.resync.releaseHost).trans (congrArg work (hreleased hnumbered)))))
    · exact .inr (.inr (h.trans ((hwork hsampled.releaseHost.resync).trans
        (congrArg (fun x => work (State.resync x)) (hreleased (x := sampled) rfl)))))
  · have hnot : ¬ due := fun hdue => ResetState.noConfusion (hi.symm.trans hdue.1)
    have haddr : numbered.hp.address = s.hp.address := hsampled.resync.address
    have hown : numbered.own = s.own := State.resync_own sampled
    have hend := State.roundEndWork_condemns_own (s := numbered) (by rwa [hown]) (by rwa [haddr, hsampled.resync.condemnField])
      (by rwa [haddr, hsampled.resync.clearField]) sampled.lu.resyncNumber.isSome
    have hattempted : numbered.attemptStarted = s.attemptStarted := State.attemptStarted_congr hnumbered (State.resync_config sampled)
    have hpt : numbered.pt = s.pt := State.resync_pt sampled
    have hround : s.endRound condemn clear = _ := State.endRound_of_not_due ho hp hnot condemn clear
    rw [hround]
    refine ⟨hend.own.trans (by rw [hown]), hend.pt.trans (by rw [hpt]), hend.accused, hend.service, hend.ru.trans ?_⟩
    rw [hattempted, State.attemptStarted, hattempt]

end Sys2Proof.Machine
end
